-- ==== Sys2Proof/Word.lean ====
section
/-! DEFINITION. The word types of the part (R4, R9, R156, R178). -/

namespace Sys2Proof

/-- One byte of a command or reply frame (R180). -/
abbrev Byte := BitVec 8

/-- Two bytes, most significant first on a port (R178). -/
abbrev Half := BitVec 16

/-- Uptime in tenths of a second (R156). -/
abbrev Uptime := BitVec 32

/-- A sensor ID (R4). -/
abbrev SensorId := BitVec 32

/-- The image generation (R9). -/
abbrev Generation := BitVec 16

end Sys2Proof
end

