-- ==== Sys2Proof/Syntax.lean ====
section
/-! DEFINITION. The commands of the part: one constructor per row of spec/opcode_table.json, in the table's order.
Parameters of port commands have the widths of R178, so a parameter that fits its width and lies outside its range is an
operand that the command's rule judges. -/

namespace Sys2Proof

/-- The two host ports (R167). -/
inductive PortId where
  | a
  | b
  deriving DecidableEq, Repr

/-- The two receive channels (R33). -/
inductive Channel where
  | rx0
  | rx1
  deriving DecidableEq, Repr

/-- One command or event of the part. -/
inductive Instr where
  /-- POWER_UP (R159). -/
  | powerUp
  /-- RESET_N (R177). -/
  | resetN
  /-- UPTIME_TICK (R156). -/
  | uptimeTick
  /-- LOAD_COMPLETION (R160). -/
  | loadCompletion
  /-- VSENSE_SAMPLE (R154): the level in units of 0.1 V, before the clamp. -/
  | vsenseSample (level : Int)
  /-- TELEGRAM_COMPLETION (R32): the bits recovered on the channel since its last command. -/
  | telegramCompletion (ch : Channel) (bits : List Bool)
  /-- ENTRY_TAKEN (R44). -/
  | entryTaken
  /-- SILENCE_EXPIRY (R94) of the record at the position. -/
  | silenceExpiry (axle : Fin 10) (slot : Fin 4)
  /-- POSITION_TIMER_EXPIRY (R136). -/
  | positionTimerExpiry
  /-- WRITE_BEGIN (R162). -/
  | writeBegin
  /-- WRITE_COMPLETION (R163): whether the verify found the written image equal to the snapshot. -/
  | writeCompletion (verified : Bool)
  /-- MALFORMED_COMMAND_FRAME (R168): the bits clocked in while chip-select was low, first bit first. -/
  | malformedCommandFrame (port : PortId) (sdi : List Bool)
  /-- NOP (R176). -/
  | nop (port : PortId)
  /-- READ_ID (R176). -/
  | readId (port : PortId)
  /-- GET_EVENTS (R173). -/
  | getEvents (port : PortId)
  /-- SET_EVENT_MASK (R174). -/
  | setEventMask (port : PortId) (mask : Half)
  /-- PORT_RESET (R175). -/
  | portReset (port : PortId)
  /-- READ_WHEELS (R99); the counts are one less than the number of axles and slots. -/
  | readWheels (port : PortId) (firstAxle firstSlot axleCount slotCount : Byte)
  /-- READ_AXLES (R28). -/
  | readAxles (port : PortId) (firstAxle axleCount : Byte)
  /-- READ_ALERTS (R113). -/
  | readAlerts (port : PortId) (start : Byte)
  /-- ACK_ALERT (R110). -/
  | ackAlert (port : PortId) (axle slot kind : Byte)
  /-- READ_PERMIT (R125). -/
  | readPermit (port : PortId)
  /-- SET_VEHICLE of the load item (R146). -/
  | setVehicleLoad (port : PortId) (value : Half)
  /-- SET_VEHICLE of the body item (R147). -/
  | setVehicleBody (port : PortId) (value : Half)
  /-- SET_VEHICLE of the trailer item (R148). -/
  | setVehicleTrailer (port : PortId) (value : Half)
  /-- SET_VEHICLE of the motion item (R149). -/
  | setVehicleMotion (port : PortId) (value : Half)
  /-- SET_VEHICLE of the lifted set (R149). -/
  | setVehicleLiftedSet (port : PortId) (value : Half)
  /-- SET_VEHICLE of the ambient item (R50). -/
  | setVehicleAmbient (port : PortId) (value : Half)
  /-- READ_VEHICLE (R150). -/
  | readVehicle (port : PortId)
  /-- SET_CONFIG (R152). -/
  | setConfig (port : PortId) (item : Byte) (value : BitVec 32)
  /-- READ_CONFIG (R152). -/
  | readConfig (port : PortId)
  /-- MAP_ASSIGN (R21). -/
  | mapAssign (port : PortId) (expected : Generation) (axle slot : Byte) (id : SensorId)
  /-- MAP_REMOVE (R22). -/
  | mapRemove (port : PortId) (expected : Generation) (axle slot : Byte)
  /-- MAP_SET_AXLE (R23). -/
  | mapSetAxle (port : PortId) (expected : Generation) (axle present unit kind profile tipCritical liftCapable : Byte)
  /-- MAP_MOVE (R26); the counts are one less than the number of axles and slots. -/
  | mapMove (port : PortId) (expected : Generation) (srcAxle srcSlot axleCount slotCount dstAxle dstSlot mode : Byte)
  /-- MAP_PROTECT (R12). -/
  | mapProtect (port : PortId) (expected : Generation) (action first last : Byte)
  /-- PROFILE_SELECT (R63). -/
  | profileSelect (port : PortId) (profile field : Byte)
  /-- PROFILE_WRITE (R64). -/
  | profileWrite (port : PortId) (value : Half)
  /-- PROFILE_READ (R70). -/
  | profileRead (port : PortId) (profile : Byte)
  /-- LEARN_START (R129). -/
  | learnStart (port : PortId) (expected : Generation) (first last : Byte)
  /-- LEARN_SKIP (R133). -/
  | learnSkip (port : PortId)
  /-- LEARN_FINISH (R134). -/
  | learnFinish (port : PortId)
  /-- LEARN_ABORT (R135). -/
  | learnAbort (port : PortId)
  /-- LEARN_STATUS (R143). -/
  | learnStatus (port : PortId)
  /-- STORE_COMMIT (R161). -/
  | storeCommit (port : PortId)
  /-- STORE_STATUS (R164). -/
  | storeStatus (port : PortId)
  /-- SYNC_DETECTED (R31): the bits recovered on the channel since its last command, and the level in dBm at the sync. -/
  | syncDetected (ch : Channel) (bits : List Bool) (level : Int)
  /-- LINE_CODING_VIOLATION (R31). -/
  | lineCodingViolation (ch : Channel)
  /-- POWER_LOSS (R165). -/
  | powerLoss
  deriving DecidableEq, Repr

end Sys2Proof
end

