-- ==== Sys2Proof/Machine/Types.lean ====
section
/-! DEFINITION. The data types of the part's blocks, as plain data. -/

namespace Sys2Proof.Machine

/-- A wheel position (R3). Slots 0 to 3 are LO, LI, RI, RO. -/
structure Pos where
  axle : Fin 10
  slot : Fin 4
  deriving DecidableEq, Repr

/-! ## Map unit -/

/-- The unit of an axle (R5). -/
inductive AxleUnit where
  | truck
  | trailer
  deriving DecidableEq, Repr

/-- The kind of an axle (R3, R5). -/
inductive AxleKind where
  | single
  | dual
  deriving DecidableEq, Repr

/-- One record of the axle table (R5). -/
structure AxleRecord where
  present : Bool
  unit : AxleUnit
  kind : AxleKind
  profile : Fin 4
  tipCritical : Bool
  liftCapable : Bool
  deriving DecidableEq, Repr

/-- The defaults of an axle record (R5). -/
def AxleRecord.default : AxleRecord := ⟨false, .truck, .single, 0, false, false⟩

/-- An inclusive range of axles: the protect range (R11) and the range of a session (R127). -/
structure AxleRange where
  lo : Nat
  hi : Nat
  deriving DecidableEq, Repr

/-! ## Profiles and configuration -/

/-- Eleven profile fields, numbered as in R60. Used for committed profiles, staging copies and stored images. -/
abbrev Profile := Vector Int 11

/-- The default profile (R60). -/
def Profile.default : Profile := #v[7500, 9000, 100, 200, 150, 20, 100, 200, 90, 110, 80]

/-- The eight configuration items (R151). -/
structure ConfigItems where
  movingLimit : Int
  stoppedLimit : Int
  referenceTemp : Int
  pattern : BitVec 32
  mask : BitVec 32
  rssiFloor : Int
  learnTimeout : Int
  supplyThreshold : Int
  deriving DecidableEq, Repr

/-- The defaults of the configuration items (R151). -/
def ConfigItems.default : ConfigItems := ⟨90, 1800, 20, 0, 0xFFFFFFFF, -85, 120, 160⟩

/-! ## The stored image -/

/-- An axle record as an image stores it: a code per field, which a load checks (R8). Codes are those of R178. -/
structure StoredAxle where
  present : Nat
  unit : Nat
  kind : Nat
  profile : Nat
  tipCritical : Nat
  liftCapable : Nat
  deriving DecidableEq, Repr

/-- The items of the image except the check value (R157). -/
structure Image where
  axles : Vector StoredAxle 10
  slots : Vector (Option SensorId) 40
  protect : Option AxleRange
  profiles : Vector Profile 4
  config : ConfigItems
  generation : Generation
  deriving DecidableEq, Repr

/-- What the non-volatile store holds: items with their check value, or content of which the spec says only that its
check value is wrong (R163, R165). -/
inductive Nonvolatile where
  | content (items : Image) (check : BitVec 16)
  | torn
  deriving DecidableEq, Repr

/-! ## Telegrams and the queue -/

/-- The kinds of a telegram (R30). -/
inductive TelegramKind where
  | periodic
  | learn
  | alert
  | fault
  deriving DecidableEq, Repr

/-- The decoded fields of a telegram (R29) without its check byte. -/
structure Telegram where
  id : SensorId
  kind : TelegramKind
  sequence : BitVec 4
  batteryLow : Bool
  pressureCode : BitVec 9
  tempCode : BitVec 8
  deriving DecidableEq, Repr

/-- A frame receiver (R31): in HUNT with the last 16 bits of its sync history, or in COLLECT with the RSSI sampled at
the sync and the bits of the telegram assembled so far. The bit count is the number of those bits. -/
inductive Receiver where
  | hunt (history : List Bool)
  | collect (rssi : Int) (bits : List Bool)
  deriving DecidableEq, Repr

/-- An entry of the telegram queue (R39). -/
structure QueueEntry where
  channel : Channel
  rssi : Int
  arrival : Uptime
  telegram : Telegram
  lost : Bool
  deriving DecidableEq, Repr

/-! ## Wheel records -/

/-- The state of a wheel record (R73). -/
inductive WheelState where
  | empty
  | awaiting
  | live
  | silent
  | detached
  deriving DecidableEq, Repr

/-- Pressure bands and zones (R83). -/
inductive Band where
  | alarmLow
  | warnLow
  | ok
  | highWarn
  deriving DecidableEq, Repr

/-- The side of a band away from OK (R83). -/
inductive Side where
  | low
  | high
  deriving DecidableEq, Repr

/-- Temperature bands (R88). -/
inductive TempBand where
  | ok
  | hotWarn
  | hotAlarm
  deriving DecidableEq, Repr

/-- The ten condition kinds (R74), in the order of their codes (R178). -/
inductive Condition where
  | lowWarn
  | lowAlarm
  | highWarn
  | hotWarn
  | hotAlarm
  | leak
  | imbalance
  | silent
  | sensorFault
  | batteryLow
  deriving DecidableEq, Repr

/-- The set of active conditions of a record (R74). -/
structure Conditions where
  lowWarn : Bool
  lowAlarm : Bool
  highWarn : Bool
  hotWarn : Bool
  hotAlarm : Bool
  leak : Bool
  imbalance : Bool
  silent : Bool
  sensorFault : Bool
  batteryLow : Bool
  deriving DecidableEq, Repr

/-- No condition active. -/
def Conditions.none : Conditions := ⟨false, false, false, false, false, false, false, false, false, false⟩

/-- The pending state of a record (R84). -/
structure Pending where
  direction : Option Side
  count : Nat
  floor : Option Band
  deriving DecidableEq, Repr

/-- The pending state cleared (R84). -/
def Pending.clear : Pending := ⟨none, 0, none⟩

/-- A wheel record (R72). Its sensor ID is the one the slot map holds. -/
structure WheelRecord where
  state : WheelState
  lastSequence : Option (BitVec 4)
  lastAccept : Option Uptime
  silenceRef : Option Uptime
  pressureCode : Option (BitVec 9)
  tempCode : Option (BitVec 8)
  overRange : Bool
  heldTemp : Option Int
  pCold : Option Int
  stale : Bool
  band : Band
  pending : Pending
  tempBand : TempBand
  leakRef : Option (Int × Uptime)
  leakCount : Nat
  leakRate : Option Int
  conditions : Conditions
  faultCode : Option (BitVec 8)
  batteryLow : Bool
  rssi0 : Option Int
  rssi1 : Option Int
  deriving DecidableEq, Repr

/-- The empty values of R16. -/
def WheelRecord.empty : WheelRecord where
  state := .empty
  lastSequence := none
  lastAccept := none
  silenceRef := none
  pressureCode := none
  tempCode := none
  overRange := false
  heldTemp := none
  pCold := none
  stale := false
  band := .ok
  pending := .clear
  tempBand := .ok
  leakRef := none
  leakCount := 0
  leakRate := none
  conditions := .none
  faultCode := none
  batteryLow := false
  rssi0 := none
  rssi1 := none

/-! ## Alert list -/

/-- An entry of the alert list (R100). -/
structure AlertEntry where
  pos : Pos
  kind : Condition
  raisedAt : Uptime
  unackA : Bool
  unackB : Bool
  deriving DecidableEq, Repr

/-- The alert list with its overflow set and marker (R100). -/
structure AlertBlock where
  entries : List AlertEntry
  overflow : List (Pos × Condition)
  marker : Bool
  deriving DecidableEq, Repr

/-! ## Tip permit -/

/-- R114. -/
inductive Verdict where
  | granted
  | withheld
  deriving DecidableEq, Repr

/-- R114. -/
inductive Basis where
  | starting
  | evaluated
  deriving DecidableEq, Repr

/-- The causes of R114. -/
inductive Cause where
  | noCriticalAxle
  | noSensor
  | notLive
  | lowAlarm
  | leak
  | imbalance
  | sideBalance
  deriving DecidableEq, Repr

/-- A reason entry (R114): no axle is none, the slot AXLE is none. -/
structure Reason where
  axle : Option (Fin 10)
  slot : Option (Fin 4)
  cause : Cause
  deriving DecidableEq, Repr

/-- The verdict record (R114). -/
structure Permit where
  verdict : Verdict
  basis : Basis
  latched : Bool
  reasons : List Reason
  more : Bool
  deriving DecidableEq, Repr

/-! ## Learn sequencer -/

/-- The last outcome of a session (R127). -/
inductive LearnOutcome where
  | none
  | completed
  | finishedEarly
  | timedOut
  | aborted
  | cancelled
  deriving DecidableEq, Repr

/-- A RUNNING session (R127); a staging entry without an ID is KEEP. -/
structure Session where
  range : AxleRange
  positions : List Pos
  cursor : Nat
  staging : List (Pos × Option SensorId)
  timerStart : Uptime
  deriving DecidableEq, Repr

/-- The session record (R127): IDLE exactly when there is no session. -/
structure Learn where
  session : Option Session
  lastOutcome : LearnOutcome
  deriving DecidableEq, Repr

/-! ## Vehicle state and supply watch -/

/-- R144. -/
inductive LoadState where
  | unladen
  | laden
  deriving DecidableEq, Repr

/-- R144. -/
inductive BodyState where
  | down
  | raising
  | raised
  | lowering
  deriving DecidableEq, Repr

/-- R144. -/
inductive TrailerState where
  | absent
  | present
  deriving DecidableEq, Repr

/-- R144. -/
inductive MotionState where
  | stopped
  | moving
  deriving DecidableEq, Repr

/-- The six vehicle-state items and the port that last wrote each (R144). The lifted set holds axle i at bit i (R178). -/
structure Vehicle where
  load : LoadState
  loadWriter : Option PortId
  body : BodyState
  bodyWriter : Option PortId
  trailer : TrailerState
  trailerWriter : Option PortId
  motion : MotionState
  motionWriter : Option PortId
  lifted : BitVec 10
  liftedWriter : Option PortId
  ambient : Int
  ambientWriter : Option PortId
  deriving DecidableEq, Repr

/-- The supply state (R154). -/
inductive SupplyState where
  | normal
  | low
  deriving DecidableEq, Repr

/-- The supply watch (R154). -/
structure Supply where
  state : SupplyState
  recovery : Fin 2
  lastSample : Option Nat
  deriving DecidableEq, Repr

/-! ## Store controller -/

/-- The store state (R158); the snapshot exists only in WRITING. -/
inductive StoreState where
  | loading
  | idle
  | pending
  | writing (snapshot : Image)
  deriving DecidableEq, Repr

/-- The last write outcome (R158). -/
inductive WriteOutcome where
  | none
  | ok
  | fault
  deriving DecidableEq, Repr

/-- The store controller (R158): no stored generation is INVALID, an image that is not valid is STORE_INVALID. -/
structure Store where
  state : StoreState
  storedGeneration : Option Generation
  imageValid : Bool
  lastWrite : WriteOutcome
  deriving DecidableEq, Repr

/-! ## Port interfaces -/

/-- The status codes (R170). -/
inductive Status where
  | ok
  | accepted
  | busy
  | stale
  | underProtection
  | range
  | inUse
  | badId
  | badProfile
  | noSession
  | noTrailer
  | unknown
  | length
  | frame
  deriving DecidableEq, Repr

/-- The eleven event flags (R172). -/
inductive EventFlag where
  | restarted
  | wheel
  | alertRaised
  | alertCleared
  | permit
  | learn
  | store
  | image
  | queueLost
  | supply
  | vehicle
  deriving DecidableEq, Repr

/-- A reply (R169); m is the number of bytes. -/
structure Reply where
  status : Status
  generation : Generation
  bytes : List Byte
  deriving DecidableEq, Repr

/-- A profile pointer that is not cleared, with the staging copy it comes with (R62). -/
structure Staging where
  profile : Fin 4
  field : Fin 11
  copy : Profile
  deriving DecidableEq, Repr

/-- A port interface (R167, R172, R62). -/
structure Port where
  /-- The chip-select input is low: a transaction is under way. The sender drives it (log entry 28). -/
  selected : Bool
  /-- The transaction under way began before a reset ended: it is not taken at its chip-select rise (R167). -/
  cut : Bool
  reply : Reply
  flags : BitVec 11
  mask : BitVec 11
  staging : Option Staging
  deriving DecidableEq, Repr

end Sys2Proof.Machine
end

