-- ==== Sys2Proof/Config.lean ====
section
/-! DEFINITION. What an implementation fixes and the spec leaves open, as constants without a body, so that no proof
depends on their values. -/

namespace Sys2Proof.Config

/-! The bytes of each image item over which the check value is computed (log entry 7): R157 calls the encoding internal to
the part, and gives the order of the items (Machine.Image.bytesOut). -/

/-- DESIGN CHOICE (log entry 7): the bytes of the stored axle table. -/
opaque encodeAxles : Vector Machine.StoredAxle 10 → List Byte

/-- DESIGN CHOICE (log entry 7): the bytes of the stored slot IDs. -/
opaque encodeSlots : Vector (Option SensorId) 40 → List Byte

/-- DESIGN CHOICE (log entry 7): the bytes of the stored protect range. -/
opaque encodeProtect : Option Machine.AxleRange → List Byte

/-- DESIGN CHOICE (log entry 7): the bytes of the stored profiles. -/
opaque encodeProfiles : Vector Machine.Profile 4 → List Byte

/-- DESIGN CHOICE (log entry 7): the bytes of the stored configuration. -/
opaque encodeConfig : Machine.ConfigItems → List Byte

/-- DESIGN CHOICE (log entry 7): the bytes of the stored generation. -/
opaque encodeGeneration : Generation → List Byte

/-- DESIGN CHOICE (log entry 16): the pressure code bits of a reported record that holds no pressure code. R181 names no
absent code for them. The arguments are the number of the READ_WHEELS and the position's index. -/
opaque absentPressureBits : Nat → Nat → BitVec 9

/-- DESIGN CHOICE (log entry 16): the temperature code byte of a reported record that holds no temperature code. -/
opaque absentTempBits : Nat → Nat → BitVec 8

/-- DESIGN CHOICE (log entry 16): the last sequence bits of a reported record that holds no last sequence. -/
opaque absentSequenceBits : Nat → Nat → BitVec 4

end Sys2Proof.Config
end

