-- ==== Sys2Proof/Machine/State.lean ====
section
/-! DEFINITION. The state of the part, its reset, and the reasons a step can stop. -/

namespace Sys2Proof.Machine

/-- Reasons to stop with a fault. The spec gives the part none: every command has an effect, a reply or no effect. -/
inductive Fault where
  deriving DecidableEq, Repr

/-- Reasons to refuse a command. -/
inductive Refusal where
  /-- Raised only by a refused arm of exec, for a command without a meaning; safe, since nothing is claimed of it. No
  arm of this model raises it. -/
  | notModelled (mnemonic : String)
  deriving DecidableEq, Repr

/-- Everything the spec gives the part, the queue of commands waiting, and the model's own counter of free values. -/
structure State where
  /-- Commands waiting, first in, first out. -/
  pending : List Instr
  /-- Frame receiver RX0 (R31). -/
  rx0 : Receiver
  /-- Frame receiver RX1 (R31). -/
  rx1 : Receiver
  /-- Telegram queue, oldest at the head (R39). -/
  queue : List QueueEntry
  /-- Lost-pending (R39, R42). -/
  lostPending : Bool
  /-- Axle table (R5). -/
  axles : Vector AxleRecord 10
  /-- Slot map (R6), at index 4 * axle + slot. -/
  slots : Vector (Option SensorId) 40
  /-- Protect range (R11). -/
  protect : Option AxleRange
  /-- Image generation (R9). -/
  generation : Generation
  /-- Committed profiles (R60). -/
  profiles : Vector Profile 4
  /-- Wheel table (R72), at index 4 * axle + slot. -/
  wheels : Vector WheelRecord 40
  /-- Alert list (R100). -/
  alerts : AlertBlock
  /-- Verdict record (R114). -/
  permit : Permit
  /-- Learn sequencer (R127). -/
  learn : Learn
  /-- Vehicle-state items (R144). -/
  vehicle : Vehicle
  /-- Configuration items (R151). -/
  config : ConfigItems
  /-- Supply watch (R154). -/
  supply : Supply
  /-- Uptime (R156). -/
  uptime : Uptime
  /-- Store controller (R158). -/
  store : Store
  /-- Non-volatile store (R157). -/
  nonvolatile : Nonvolatile
  /-- Port interface A (R167). -/
  portA : Port
  /-- Port interface B (R167). -/
  portB : Port
  /-- The model's own counter: the number of the next free value (log entry 16). -/
  freeIndex : Nat
  deriving DecidableEq, Repr

/-- A port interface after power-up: reply OK with generation 0 (R169), RESTARTED alone set and every flag masked
(R172), no staging (R62). DESIGN CHOICE (log entry 28): chip-select is high, so no transaction is cut. -/
def Port.reset : Port where
  selected := false
  cut := false
  reply := ⟨.ok, 0, []⟩
  flags := 1
  mask := BitVec.allOnes 11
  staging := none

/-- The verdict record after power-up (R114). -/
def Permit.reset : Permit := ⟨.withheld, .starting, false, [], false⟩

/-- The vehicle-state items after power-up (R144). -/
def Vehicle.reset : Vehicle := ⟨.unladen, none, .down, none, .absent, none, .stopped, none, 0, none, 1013, none⟩

/-- The part right after reset (R5, R6, R9, R11, R31, R39, R60, R62, R72, R101, R114, R127, R144, R151, R154, R156,
R158, R169, R172), with no command waiting. DESIGN CHOICE (log entry 6): the non-volatile store holds content that
fails its check. -/
def State.reset : State where
  pending := []
  rx0 := .hunt []
  rx1 := .hunt []
  queue := []
  lostPending := false
  axles := Vector.replicate 10 AxleRecord.default
  slots := Vector.replicate 40 none
  protect := none
  generation := 0
  profiles := Vector.replicate 4 Profile.default
  wheels := Vector.replicate 40 WheelRecord.empty
  alerts := ⟨[], [], false⟩
  permit := Permit.reset
  learn := ⟨none, .none⟩
  vehicle := Vehicle.reset
  config := ConfigItems.default
  supply := ⟨.normal, 0, none⟩
  uptime := 0
  store := ⟨.loading, none, false, .none⟩
  nonvolatile := .torn
  portA := Port.reset
  portB := Port.reset
  freeIndex := 0

end Sys2Proof.Machine
end

