-- ==== Sys2Proof/Machine/Ops.lean ====
section
/-! DEFINITION. The shared operations over the part's tables: positions, the map lookups, wheel records, time, replies. -/

namespace Sys2Proof.Machine

/-- What a step answers. -/
abbrev Result := Host.Outcome State Fault Refusal

/-! ## Arithmetic -/

/-- The nearest value of a range (R2). -/
def clampInt (lo hi x : Int) : Int := if x < lo then lo else if hi < x then hi else x

/-- A later uptime minus an earlier one, modulo 2^32 (R156). -/
def elapsed (later earlier : Uptime) : Nat := (later - earlier).toNat

/-- A table given entry by entry. -/
def tabulate {α : Type} {n : Nat} (f : Fin n → α) : Vector α n := ⟨(List.ofFn f).toArray, by simp⟩

/-- The status of the first check that fails, in the order the rule gives its checks; none when all pass. -/
def firstFailure : List (Bool × Status) → Option Status
  | [] => none
  | (passes, status) :: rest => if passes then firstFailure rest else some status

/-! ## Positions (R3) -/

/-- The index of a position in the 40-entry tables. -/
def Pos.idx (p : Pos) : Fin 40 := ⟨4 * p.axle.val + p.slot.val, by omega⟩

/-- The position of an index of the 40-entry tables. -/
def posOfIdx (i : Fin 40) : Pos := ⟨⟨i.val / 4, by omega⟩, ⟨i.val % 4, by omega⟩⟩

/-- The four positions of an axle, slot 0 to 3. -/
def axlePositions (a : Fin 10) : List Pos := (List.finRange 4).map (Pos.mk a)

/-- Every position in slot order: axle ascending, then slot 0 to 3 (R8). -/
def allPos : List Pos := (List.finRange 10).flatMap axlePositions

/-- The lower slot of the pair a position belongs to: LO of (LO, LI), RI of (RI, RO). -/
def Pos.pairLow (p : Pos) : Pos := ⟨p.axle, ⟨2 * (p.slot.val / 2), by omega⟩⟩

/-- The higher slot of the pair a position belongs to. -/
def Pos.pairHigh (p : Pos) : Pos := ⟨p.axle, ⟨2 * (p.slot.val / 2) + 1, by omega⟩⟩

/-! ## Axle table and slot map (R5, R6, R7) -/

/-- The axle record of an axle. -/
def State.axle (s : State) (a : Fin 10) : AxleRecord := s.axles[a]

/-- Which slots an axle record makes valid (R3): LI and RI only on a DUAL axle. -/
def AxleRecord.validSlot (r : AxleRecord) (slot : Fin 4) : Bool :=
  r.present && (r.kind == .dual || slot == 0 || slot == 3)

/-- Whether a position is a valid slot under the axle table (R3). -/
def State.validPos (s : State) (p : Pos) : Bool := (s.axle p.axle).validSlot p.slot

/-- Whether an ID is valid (R4). -/
def validId (id : SensorId) : Bool := id != 0x00000000 && id != 0xFFFFFFFF

/-- The ID a slot holds (R6). -/
def State.slotId (s : State) (p : Pos) : Option SensorId := s.slots[p.idx]

/-- The ID lookup (R7): the slot holding the ID; an invalid ID is always not mapped. -/
def State.lookup (s : State) (id : SensorId) : Option Pos :=
  if validId id then allPos.find? fun p => s.slotId p == some id else none

/-- Write one slot of the slot map. -/
def State.setSlot (s : State) (p : Pos) (id : Option SensorId) : State :=
  { s with slots := s.slots.set p.idx.val id p.idx.isLt }

/-- A slot is detached when its axle's unit is TRAILER and the trailer state is ABSENT (R15). -/
def State.detachedSlot (s : State) (p : Pos) : Bool :=
  (s.axle p.axle).unit == .trailer && s.vehicle.trailer == .absent

/-- Whether an axle lies in a range of axles. -/
def AxleRange.covers (r : AxleRange) (a : Nat) : Bool := decide (r.lo ≤ a) && decide (a ≤ r.hi)

/-- Whether an axle is protected (R11). -/
def State.protectedAxle (s : State) (a : Nat) : Bool :=
  match s.protect with
  | none => false
  | some r => r.covers a

/-- Whether an axle lies in the range of a RUNNING session (R13, check 6). -/
def State.sessionAxle (s : State) (a : Nat) : Bool :=
  match s.learn.session with
  | none => false
  | some l => l.range.covers a

/-! ## Wheel table (R72) -/

/-- The wheel record of a position. -/
def State.wheel (s : State) (p : Pos) : WheelRecord := s.wheels[p.idx]

/-- Write one wheel record. -/
def State.setWheel (s : State) (p : Pos) (r : WheelRecord) : State :=
  { s with wheels := s.wheels.set p.idx.val r p.idx.isLt }

/-- Change one wheel record. -/
def State.modWheel (s : State) (p : Pos) (f : WheelRecord → WheelRecord) : State := s.setWheel p (f (s.wheel p))

/-- The P_cold of a LIVE record that holds one: what the imbalance check (R91), the side-balance test (R117) and a
re-evaluation (R96) look at. -/
def WheelRecord.livePressure (r : WheelRecord) : Option Int :=
  match r.state, r.pCold with
  | .live, some c => some c
  | _, _ => none

/-! ## Conditions (R74) -/

/-- The ten kinds in the order of their codes (R178). -/
def Condition.all : List Condition :=
  [.lowWarn, .lowAlarm, .highWarn, .hotWarn, .hotAlarm, .leak, .imbalance, .silent, .sensorFault, .batteryLow]

/-- Whether a condition is active. -/
def Conditions.has (c : Conditions) : Condition → Bool
  | .lowWarn => c.lowWarn
  | .lowAlarm => c.lowAlarm
  | .highWarn => c.highWarn
  | .hotWarn => c.hotWarn
  | .hotAlarm => c.hotAlarm
  | .leak => c.leak
  | .imbalance => c.imbalance
  | .silent => c.silent
  | .sensorFault => c.sensorFault
  | .batteryLow => c.batteryLow

/-- The set with one condition made active or not. -/
def Conditions.put (c : Conditions) (k : Condition) (on : Bool) : Conditions :=
  match k with
  | .lowWarn => { c with lowWarn := on }
  | .lowAlarm => { c with lowAlarm := on }
  | .highWarn => { c with highWarn := on }
  | .hotWarn => { c with hotWarn := on }
  | .hotAlarm => { c with hotAlarm := on }
  | .leak => { c with leak := on }
  | .imbalance => { c with imbalance := on }
  | .silent => { c with silent := on }
  | .sensorFault => { c with sensorFault := on }
  | .batteryLow => { c with batteryLow := on }

/-- Whether a condition is active on the wheel at a position. -/
def State.active (s : State) (p : Pos) (k : Condition) : Bool := (s.wheel p).conditions.has k

/-! ## Port interfaces and replies (R167, R169) -/

/-- The interface of a port. -/
def State.port (s : State) : PortId → Port
  | .a => s.portA
  | .b => s.portB

/-- Write the interface of a port. -/
def State.setPort (s : State) (p : PortId) (x : Port) : State :=
  match p with
  | .a => { s with portA := x }
  | .b => { s with portB := x }

/-- The other port. -/
def otherPort : PortId → PortId
  | .a => .b
  | .b => .a

/-- Place a reply in a port's reply slot, with the generation as it stands (R10, R169). -/
def State.answer (s : State) (p : PortId) (status : Status) (bytes : List Byte) : State :=
  s.setPort p { s.port p with reply := ⟨status, s.generation, bytes⟩ }

/-- A refusal: a status and no reply bytes (R2, R169). -/
def State.refuse (s : State) (p : PortId) (status : Status) : State := s.answer p status []

/-- Whether the store controller is LOADING (R158). -/
def State.loading (s : State) : Bool :=
  match s.store.state with
  | .loading => true
  | _ => false

/-- A chip-select rise on a port. A transaction cut by a reset is not taken: it gives no command and no reply, and the
port takes the next one (R167). -/
def State.transact (s : State) (p : PortId) (taken : State → State) : State :=
  if (s.port p).cut then s.setPort p { s.port p with cut := false } else taken s

/-- A command that R159 does not take during LOADING: BUSY before any other check. -/
def State.unlessLoading (s : State) (p : PortId) (taken : State → State) : State :=
  s.transact p fun s => if s.loading then s.refuse p .busy else taken s

/-! ## Whole-machine operations -/

/-- A port interface after a reset: a transaction under way when it ended is cut (R167, R169, R172). -/
def Port.restart (x : Port) : Port := { Port.reset with selected := x.selected, cut := x.selected }

/-- Power-up (R159, R177): every block at its reset values and a new load. The non-volatile store keeps its content, but
an image that was being written is torn (R165). The queue of commands and the counter of free values are not the part's
(log entries 1, 16). -/
def State.restart (s : State) : State :=
  { State.reset with
    portA := s.portA.restart
    portB := s.portB.restart
    pending := s.pending
    freeIndex := s.freeIndex
    nonvolatile :=
      match s.store.state with
      | .writing _ => .torn
      | _ => s.nonvolatile }

end Sys2Proof.Machine
end

