-- ==== Sys2Proof/Machine/Pressure.lean ====
section
/-! DEFINITION. Cold-equivalent pressure and the levels of a profile (R46 to R59), and profile fields (R60, R61, R65). -/

namespace Sys2Proof.Machine

/-! ## Compensation -/

/-- The gauge pressure of a pressure code in dkPa; code 511 counts as 510 (R47). -/
def gaugeOf (pc : BitVec 9) : Int := if pc.toNat = 511 then 12750 else 25 * (pc.toNat : Int)

/-- The measured temperature of a temperature code; code 255 measures none (R48). -/
def measuredTemp (tc : BitVec 8) : Option Int := if tc.toNat = 255 then none else some ((tc.toNat : Int) - 50)

/-- The temperature the correction uses (R48): the measured one, else the held one, else the reference. -/
def tempUsed (tc : BitVec 8) (held : Option Int) (reference : Int) : Int :=
  match measuredTemp tc, held with
  | some t, _ => t
  | none, some h => h
  | none, none => reference

/-- The held temperature after a reading (R48). -/
def heldAfter (tc : BitVec 8) (held : Option Int) : Option Int :=
  match measuredTemp tc with
  | some t => some t
  | none => held

/-- The rounded scaling of an absolute pressure, an exact half rounded up (R53). -/
def scaledAbsolute (pAbs tRef tUsed : Int) : Int := (2 * pAbs * tRef + tUsed).tdiv (2 * tUsed)

/-- P_cold from the gauge pressure, the ambient, the temperature used and the reference (R52 to R54). -/
def coldPressure (gauge ambient used reference : Int) : Int :=
  max 0 (scaledAbsolute (gauge + ambient) (reference + 273) (used + 273) - ambient)

/-! ## Profile fields and levels -/

/-- The range of a profile field (R60). -/
def fieldRange : Fin 11 → Int × Int :=
  fun f => #v[((2000 : Int), (12000 : Int)), (2000, 12000), (50, 400), (60, 600), (50, 400), (5, 100), (20, 300),
    (50, 2000), (40, 150), (50, 180), (20, 300)][f]

/-- A value clamped to the range of a profile field (R64). -/
def clampField (f : Fin 11) (v : Int) : Int := clampInt (fieldRange f).1 (fieldRange f).2 v

/-- Write one field of a profile. -/
def Profile.setField (p : Profile) (f : Fin 11) (v : Int) : Profile := p.set f.val v f.isLt

/-- Every field clamped to its range (R61). -/
def Profile.clamped (p : Profile) : Profile := tabulate fun f => clampField f p[f]

/-- low warn permille, field 2. -/
def Profile.lowWarn (p : Profile) : Int := p[2]
/-- low alarm permille, field 3. -/
def Profile.lowAlarm (p : Profile) : Int := p[3]
/-- high warn permille, field 4. -/
def Profile.highWarn (p : Profile) : Int := p[4]
/-- hysteresis permille, field 5. -/
def Profile.hysteresis (p : Profile) : Int := p[5]
/-- imbalance permille, field 6. -/
def Profile.imbalance (p : Profile) : Int := p[6]
/-- leak limit, field 7. -/
def Profile.leakLimit (p : Profile) : Int := p[7]
/-- hot warn, field 8. -/
def Profile.hotWarn (p : Profile) : Int := p[8]
/-- hot alarm, field 9. -/
def Profile.hotAlarm (p : Profile) : Int := p[9]
/-- side balance permille, field 10. -/
def Profile.sideBalance (p : Profile) : Int := p[10]

/-- The check ALARM_ORDER fails (R65). -/
def Profile.alarmOrderFails (p : Profile) : Bool := decide (p.lowAlarm ≤ p.lowWarn)
/-- The check HOT_ORDER fails (R65). -/
def Profile.hotOrderFails (p : Profile) : Bool := decide (p.hotAlarm ≤ p.hotWarn)
/-- The check HYSTERESIS_ORDER fails (R65). -/
def Profile.hysteresisOrderFails (p : Profile) : Bool := decide (p.lowWarn ≤ p.hysteresis)

/-- The three commit checks of R65. -/
def Profile.passesChecks (p : Profile) : Bool :=
  !p.alarmOrderFails && !p.hotOrderFails && !p.hysteresisOrderFails

/-- A stored profile as a load takes it (R61): clamped, then replaced whole by the default if it fails a check. -/
def Profile.loaded (p : Profile) : Profile := if p.clamped.passesChecks then p.clamped else Profile.default

/-- The target in force (R56). -/
def Profile.target (p : Profile) : LoadState → Int
  | .unladen => p[0]
  | .laden => p[1]

/-- The levels of R57. -/
structure Levels where
  lowWarn : Int
  lowAlarm : Int
  highWarn : Int
  hysteresis : Int
  imbalance : Int
  side : Int
  deriving DecidableEq, Repr

/-- A permille fraction of a target, truncated (R57). -/
def permille (target m : Int) : Int := (target * m).tdiv 1000

/-- The levels of a profile at a load state (R57). -/
def Profile.levels (p : Profile) (load : LoadState) : Levels :=
  let t := p.target load
  { lowWarn := permille t (1000 - p.lowWarn)
    lowAlarm := permille t (1000 - p.lowAlarm)
    highWarn := permille t (1000 + p.highWarn)
    hysteresis := permille t p.hysteresis
    imbalance := permille t p.imbalance
    side := permille t p.sideBalance }

/-- LowAlarm release (R57). -/
def Levels.lowAlarmRelease (l : Levels) : Int := l.lowAlarm + l.hysteresis
/-- LowWarn release (R57). -/
def Levels.lowWarnRelease (l : Levels) : Int := l.lowWarn + l.hysteresis
/-- HighWarn release (R57). -/
def Levels.highWarnRelease (l : Levels) : Int := l.highWarn - l.hysteresis
/-- imbalance release (R57). -/
def Levels.imbalanceRelease (l : Levels) : Int := l.imbalance - l.hysteresis

/-- The committed profile an axle names (R60). -/
def State.profileOfAxle (s : State) (a : Fin 10) : Profile := s.profiles[(s.axle a).profile]

/-- The levels in force for an axle (R56, R57). -/
def State.levelsOf (s : State) (a : Fin 10) : Levels := (s.profileOfAxle a).levels s.vehicle.load

end Sys2Proof.Machine
end

