-- ==== Sys2Proof/Machine/Flags.lean ====
section
/-! DEFINITION. Event flags, masks and output lines (R172 to R174, R177, R123). -/

namespace Sys2Proof.Machine

/-- The number of an event flag (R172). -/
def EventFlag.number : EventFlag → Nat
  | .restarted => 0
  | .wheel => 1
  | .alertRaised => 2
  | .alertCleared => 3
  | .permit => 4
  | .learn => 5
  | .store => 6
  | .image => 7
  | .queueLost => 8
  | .supply => 9
  | .vehicle => 10

/-- The bit of an event flag. -/
def EventFlag.bit (f : EventFlag) : BitVec 11 := BitVec.twoPow 11 f.number

/-- Whether a port's flag is set. -/
def Port.flag (x : Port) (f : EventFlag) : Bool := x.flags.getLsbD f.number

/-- Set an event flag on one port; a flag already set stays set (R172). -/
def State.setFlag (s : State) (p : PortId) (f : EventFlag) : State :=
  s.setPort p { s.port p with flags := (s.port p).flags ||| f.bit }

/-- Set an event flag on both ports. -/
def State.setFlagBoth (s : State) (f : EventFlag) : State := (s.setFlag .a f).setFlag .b f

/-- Set an event flag on both ports in an event that has its cause. -/
def State.setFlagIf (s : State) (cause : Bool) (f : EventFlag) : State := if cause then s.setFlagBoth f else s

/-- Whether the attention line of a port is asserted (R174). -/
def State.attention (s : State) (p : PortId) : Bool := (s.port p).flags &&& ~~~(s.port p).mask != 0

/-- Whether TIP_OK is asserted (R123). -/
def State.tipOk (s : State) : Bool := s.permit.verdict == .granted

/-- The level of ATN_A or ATN_B, true for high (R177): driven low while asserted. -/
def State.atnPin (s : State) (p : PortId) : Bool := !s.attention p

/-- The level of TIP_OK, true for high (R177): driven high while asserted. -/
def State.tipOkPin (s : State) : Bool := s.tipOk

/-- The state of a record that R74 watches for WHEEL: state, bands and active conditions. -/
def WheelRecord.judged (r : WheelRecord) : WheelState × Band × TempBand × Conditions :=
  (r.state, r.band, r.tempBand, r.conditions)

/-- Whether any record's state, band or active conditions differ between two states (R74). -/
def wheelsChanged (before after : State) : Bool :=
  allPos.any fun p => (before.wheel p).judged != (after.wheel p).judged

/-- Set WHEEL on both ports if the event changed any record (R74). -/
def State.noteWheels (before after : State) : State := after.setFlagIf (wheelsChanged before after) .wheel

end Sys2Proof.Machine
end

