-- ==== Sys2Proof/Machine/Alerts.lean ====
section
/-! DEFINITION. The alert list and the hand-overs of conditions to it (R100 to R109). -/

namespace Sys2Proof.Machine

/-- The bound of the alert list (R100). -/
def alertCapacity : Nat := 64

/-- Whether an entry names a wheel and a condition. -/
def AlertEntry.names (e : AlertEntry) (p : Pos) (k : Condition) : Bool := e.pos == p && e.kind == k

/-- Whether both ports have acknowledged an entry (R104). -/
def AlertEntry.evictable (e : AlertEntry) : Bool := !e.unackA && !e.unackB

/-- The marker test made when an entry leaves the list (R106). -/
def AlertBlock.entryLeft (b : AlertBlock) : AlertBlock :=
  if b.overflow.isEmpty then { b with marker := false } else b

/-- A new entry at the tail with both unacknowledged marks set (R103). -/
def AlertBlock.append (b : AlertBlock) (p : Pos) (k : Condition) (now : Uptime) : AlertBlock :=
  { b with entries := b.entries ++ [⟨p, k, now, true, true⟩] }

/-- The entry nearest the head that both ports have acknowledged leaves the list (R104). -/
def AlertBlock.evict (b : AlertBlock) : AlertBlock :=
  AlertBlock.entryLeft { b with entries := b.entries.eraseP AlertEntry.evictable }

/-- A condition that is not listed enters the overflow set (R105). -/
def AlertBlock.enterOverflow (b : AlertBlock) (p : Pos) (k : Condition) : AlertBlock :=
  { b with
    overflow := if b.overflow.contains (p, k) then b.overflow else b.overflow ++ [(p, k)]
    marker := true }

/-- A raising handed to the list (R103 to R105). -/
def AlertBlock.raising (b : AlertBlock) (p : Pos) (k : Condition) (now : Uptime) : AlertBlock :=
  if b.entries.length < alertCapacity then b.append p k now
  else if b.entries.any AlertEntry.evictable then b.evict.append p k now
  else b.enterOverflow p k

/-- A clearing handed to the list (R107). -/
def AlertBlock.clearing (b : AlertBlock) (p : Pos) (k : Condition) : AlertBlock :=
  if b.entries.any (fun e => e.names p k) then
    AlertBlock.entryLeft { b with entries := b.entries.eraseP fun e => e.names p k }
  else { b with overflow := b.overflow.erase (p, k) }

/-- Re-addressings taken together, as one change (R108): only positions change. -/
def AlertBlock.readdress (b : AlertBlock) (newPos : Pos → Pos) : AlertBlock :=
  { b with
    entries := b.entries.map fun e => { e with pos := newPos e.pos }
    overflow := b.overflow.map fun m => (newPos m.1, m.2) }

/-- A condition becomes active on a wheel and its raising is handed over; an active one is not handed on (R74, R109). -/
def State.raiseCond (s : State) (p : Pos) (k : Condition) : State :=
  if s.active p k then s
  else
    ({ s.modWheel p (fun r => { r with conditions := r.conditions.put k true }) with
      alerts := s.alerts.raising p k s.uptime }).setFlagBoth .alertRaised

/-- A condition leaves a wheel's set and its clearing is handed over; an inactive one is not handed on (R74, R109). -/
def State.clearCond (s : State) (p : Pos) (k : Condition) : State :=
  if s.active p k then
    ({ s.modWheel p (fun r => { r with conditions := r.conditions.put k false }) with
      alerts := s.alerts.clearing p k }).setFlagBoth .alertCleared
  else s

/-- Clearings of several conditions of one wheel, in the order listed. -/
def State.clearConds (s : State) (p : Pos) (ks : List Condition) : State := ks.foldl (fun s k => s.clearCond p k) s

/-- The clearing of a wheel's conditions by a treatment of its record: those listed, but IMBALANCE of a wheel that has a
pair, which R20 clears on both wheels of the pair (State.clearPair). The spec gives no order within it: the order of the
list (DESIGN CHOICE, log entry 14). -/
def State.clearOwn (s : State) (p : Pos) (ks : List Condition) : State :=
  s.clearConds p (ks.filter fun k => !(k == .imbalance && (s.axle p.axle).kind == .dual))

/-- IMBALANCE raised on both wheels of a pair, the lower slot first (R74, R91). -/
def State.raisePair (s : State) (p : Pos) : State :=
  (s.raiseCond p.pairLow .imbalance).raiseCond p.pairHigh .imbalance

/-- IMBALANCE cleared on both wheels of a position's dual pair, the lower slot first (R20, R74, R92); an axle that is not
DUAL has no pairs. -/
def State.clearPair (s : State) (p : Pos) : State :=
  if (s.axle p.axle).kind = .dual then
    (s.clearCond p.pairLow .imbalance).clearCond p.pairHigh .imbalance
  else s

/-- A treatment of several positions in turn. -/
def State.atEach (s : State) (ps : List Pos) (f : State → Pos → State) : State := ps.foldl f s

/-- Every condition of several wheels cleared, one wheel after another, then R20 for their pairs (R24, R25, R148). DESIGN
CHOICE (log entry 14): all the wheels come before any pair. -/
def State.clearRecords (s : State) (ps : List Pos) : State :=
  (s.atEach ps fun t p => t.clearOwn p Condition.all).atEach ps State.clearPair

/-- Every condition of one wheel cleared, then R20 for its pair (R16, R17, R22). -/
def State.clearRecord (s : State) (p : Pos) : State := s.clearRecords [p]

end Sys2Proof.Machine
end

