-- ==== Sys2Proof/Machine/Records.lean ====
section
/-! DEFINITION. The treatments of wheel records under map changes (R15 to R20). -/

namespace Sys2Proof.Machine

/-- The fresh-start values of R16. -/
def WheelRecord.fresh (state : WheelState) (now : Uptime) : WheelRecord :=
  { WheelRecord.empty with state := state, silenceRef := some now }

/-- The state a record starts or restarts in at a slot (R15). -/
def startState (detached : Bool) : WheelState := if detached then .detached else .awaiting

/-- A carried record at its destination, its conditions cleared as R18 gives before this. -/
def WheelRecord.carried (r : WheelRecord) (detached : Bool) (now : Uptime) : WheelRecord :=
  { r with
    state := startState detached
    silenceRef := some now
    stale := r.pCold.isSome
    band := .ok
    tempBand := .ok
    pending := .clear
    leakCount := 0 }

/-- A detached record, its conditions cleared (R19). -/
def WheelRecord.detach (r : WheelRecord) : WheelRecord :=
  { r with
    state := .detached
    band := .ok
    tempBand := .ok
    pending := .clear
    leakCount := 0
    stale := r.pCold.isSome }

/-- An attached record (R19). -/
def WheelRecord.attach (r : WheelRecord) (now : Uptime) : WheelRecord :=
  { r with state := .awaiting, silenceRef := some now }

/-- A position without a sensor: slot and record empty (R16). -/
def State.blank (s : State) (p : Pos) : State := (s.setWheel p .empty).setSlot p none

/-- Emptying the record and the slot at a position, with R20 for its pair (R16). -/
def State.emptyAt (s : State) (p : Pos) : State := (s.clearRecord p).blank p

/-- Emptying several positions in one step, with R20 for their pairs after their conditions (R16, R24). -/
def State.emptyAll (s : State) (ps : List Pos) : State := (s.clearRecords ps).atEach ps State.blank

/-- A fresh start for an ID at a position, with R20 for its pair (R17). -/
def State.freshAt (s : State) (p : Pos) (id : SensorId) : State :=
  ((s.clearRecord p).setWheel p (.fresh (startState (s.detachedSlot p)) s.uptime)).setSlot p (some id)

/-- Whether detaching changes a record: EMPTY and DETACHED ones are left (R19). -/
def WheelRecord.detaches (r : WheelRecord) : Bool := r.state != .empty && r.state != .detached

/-- Detaching several records in one step: their conditions clear, then IMBALANCE on their pairs (R19, R25, R148). -/
def State.detachAll (s : State) (ps : List Pos) : State :=
  let qs := ps.filter fun p => (s.wheel p).detaches
  (s.clearRecords qs).atEach qs fun t p => t.modWheel p WheelRecord.detach

/-- Attaching the record at a position; only a DETACHED record is attached (R19). -/
def State.attachAt (s : State) (p : Pos) : State :=
  match (s.wheel p).state with
  | .detached => s.modWheel p fun r => r.attach s.uptime
  | _ => s

end Sys2Proof.Machine
end

