-- ==== Sys2Proof/Machine/Bands.lean ====
section
/-! DEFINITION. Pressure bands, temperature bands, leak and imbalance (R83 to R92), and re-evaluation (R96). -/

namespace Sys2Proof.Machine

/-! ## Pressure band -/

/-- The zone tests of R83, in order. -/
def zoneOf (alarm warn high p : Int) : Band :=
  if p < alarm then .alarmLow else if p < warn then .warnLow else if high < p then .highWarn else .ok

/-- The raw zone Z (R83). -/
def Levels.rawZone (l : Levels) (p : Int) : Band := zoneOf l.lowAlarm l.lowWarn l.highWarn p

/-- The release zone Zh (R83). DESIGN CHOICE (log entry 29): a P_cold equal to the HighWarn release is not above it, as R83
tests, so it releases HIGH_WARN also where that level is the target, although R58 says that the target then does not. -/
def Levels.releaseZone (l : Levels) (p : Int) : Band :=
  zoneOf l.lowAlarmRelease l.lowWarnRelease l.highWarnRelease p

/-- The rank of a zone or band (R83). -/
def Band.rank : Band → Int
  | .alarmLow => -2
  | .warnLow => -1
  | .ok => 0
  | .highWarn => 1

/-- The side of a zone or band; OK has none (R83). -/
def Band.side : Band → Option Side
  | .alarmLow => some .low
  | .warnLow => some .low
  | .ok => none
  | .highWarn => some .high

/-- How far from OK a zone or band lies, by rank. -/
def Band.distance (b : Band) : Nat := b.rank.natAbs

/-- A zone lies strictly between a band and OK by rank (R83). -/
def Band.betweenOk (z b : Band) : Bool :=
  (decide (b.rank < z.rank) && decide (z.rank < 0)) || (decide (0 < z.rank) && decide (z.rank < b.rank))

/-- Whichever of two zones lies nearer OK (R86). -/
def Band.nearerOk (x y : Band) : Band := if x.distance ≤ y.distance then x else y

/-- A zone on the other side of OK from a band (R85, crossing). -/
def Band.otherSide (z b : Band) : Bool :=
  match z.side, b.side with
  | some x, some y => x != y
  | _, _ => false

/-- A zone asks for a move away from the band (R85, step 4). -/
def Band.raiseCandidate (z b : Band) : Bool :=
  z != .ok && (b == .ok || (z.side == b.side && decide (b.distance < z.distance)))

/-- The count of a raise candidate (R86). -/
def Pending.count1 (q : Pending) (z : Band) : Pending :=
  if q.direction = z.side then
    { q with
      count := q.count + 1
      floor := some (match q.floor with
        | some f => f.nearerOk z
        | none => z) }
  else ⟨z.side, 1, some z⟩

/-- Steps 4 and 5 of R85 for a band and a raw zone: the band changes made and the pending state after. Confirmation by
number is R86; no number is a re-evaluation, whose candidate is taken at once (R96). -/
def raiseStep (confirm : Option Nat) (b : Band) (q : Pending) (z : Band) : List Band × Pending :=
  if z.raiseCandidate b then
    match confirm with
    | none => ([z], .clear)
    | some n =>
      let q' := q.count1 z
      if n ≤ q'.count then ([q'.floor.getD z], .clear) else ([], q')
  else ([], .clear)

/-- The pressure band step (R85): the bands taken in turn and the pending state after. -/
def bandStep (l : Levels) (confirm : Option Nat) (b : Band) (q : Pending) (p : Int) : List Band × Pending :=
  let z := l.rawZone p
  let zh := l.releaseZone p
  if z = b then ([], .clear)
  else if b != .ok && (zh == .ok || zh.betweenOk b) then ([zh], .clear)
  else if b != .ok && zh.otherSide b then
    let after := raiseStep confirm .ok .clear z
    (.ok :: after.1, after.2)
  else raiseStep confirm b q z

/-- The condition that mirrors a pressure band (R87). -/
def Band.condition : Band → Option Condition
  | .alarmLow => some .lowAlarm
  | .warnLow => some .lowWarn
  | .ok => none
  | .highWarn => some .highWarn

/-- Raise a condition if there is one. -/
def State.raiseOpt (s : State) (p : Pos) : Option Condition → State
  | none => s
  | some k => s.raiseCond p k

/-- Clear a condition if there is one. -/
def State.clearOpt (s : State) (p : Pos) : Option Condition → State
  | none => s
  | some k => s.clearCond p k

/-- One change of the pressure band: the old condition clears, then the new one is raised (R87). -/
def State.setBand (s : State) (p : Pos) (b : Band) : State :=
  ((s.clearOpt p (s.wheel p).band.condition).modWheel p fun r => { r with band := b }).raiseOpt p b.condition

/-- The pressure band step of a record for a P_cold (R85 to R87). -/
def State.judgePressure (s : State) (p : Pos) (confirm : Option Nat) (cold : Int) : State :=
  let r := s.wheel p
  let out := bandStep (s.levelsOf p.axle) confirm r.band r.pending cold
  (out.1.foldl (fun s b => s.setBand p b) s).modWheel p fun r => { r with pending := out.2 }

/-! ## Temperature band -/

/-- The band a measured temperature matches (R88). -/
def matchTemp (hotWarn hotAlarm t : Int) : TempBand :=
  if hotAlarm ≤ t then .hotAlarm else if hotWarn ≤ t then .hotWarn else .ok

/-- R88. -/
def TempBand.rank : TempBand → Nat
  | .ok => 0
  | .hotWarn => 1
  | .hotAlarm => 2

/-- The level of a temperature band; OK has none (R88). -/
def TempBand.level (hotWarn hotAlarm : Int) : TempBand → Option Int
  | .ok => none
  | .hotWarn => some hotWarn
  | .hotAlarm => some hotAlarm

/-- The temperature band after a measured temperature (R88). -/
def tempStep (hotWarn hotAlarm : Int) (b : TempBand) (t : Int) : TempBand :=
  let m := matchTemp hotWarn hotAlarm t
  if b.rank < m.rank then m
  else if m.rank < b.rank then
    match b.level hotWarn hotAlarm with
    | some level => if t < level - 5 then m else b
    | none => b
  else b

/-- The condition that mirrors a temperature band (R88). -/
def TempBand.condition : TempBand → Option Condition
  | .ok => none
  | .hotWarn => some .hotWarn
  | .hotAlarm => some .hotAlarm

/-- The temperature band step of a record: code 255 leaves the band (R88). -/
def State.judgeTemp (s : State) (p : Pos) (tc : BitVec 8) : State :=
  match measuredTemp tc with
  | none => s
  | some t =>
    let f := s.profileOfAxle p.axle
    let b := (s.wheel p).tempBand
    let m := tempStep f.hotWarn f.hotAlarm b t
    if m = b then s
    else ((s.clearOpt p b.condition).modWheel p fun r => { r with tempBand := m }).raiseOpt p m.condition

/-! ## Leak -/

/-- The leak rate in dkPa per minute, truncated toward zero (R89). -/
def leakRate (reference cold : Int) (delta : Nat) : Int := ((reference - cold) * 600).tdiv (delta : Int)

/-- A computed rate judged against the leak limit (R90). -/
def State.judgeLeak (s : State) (p : Pos) (alert : Bool) (limit rate : Int) : State :=
  if limit ≤ rate then
    let n := if alert then 2 else min 2 ((s.wheel p).leakCount + 1)
    let s := s.modWheel p fun r => { r with leakCount := n }
    if n = 2 then s.raiseCond p .leak else s
  else if rate < limit.tdiv 2 then (s.modWheel p fun r => { r with leakCount := 0 }).clearCond p .leak
  else s

/-- The leak step of a reading (R89). -/
def State.leakStep (s : State) (p : Pos) (alert : Bool) (cold : Int) (arrival : Uptime) : State :=
  match (s.wheel p).leakRef with
  | none => s.modWheel p fun r => { r with leakRef := some (cold, arrival) }
  | some (reference, since) =>
    let delta := elapsed arrival since
    if delta < 300 then s
    else
      let rate := leakRate reference cold delta
      let s := (s.modWheel p fun r => { r with leakRate := some rate }).judgeLeak p alert
        (s.profileOfAxle p.axle).leakLimit rate
      if 3000 ≤ delta then s.modWheel p fun r => { r with leakRef := some (cold, arrival) } else s

/-! ## Imbalance -/

/-- The imbalance check of a position's pair on a DUAL axle (R91). -/
def State.checkPair (s : State) (p : Pos) : State :=
  if (s.axle p.axle).kind = .dual then
    match (s.wheel p.pairLow).livePressure, (s.wheel p.pairHigh).livePressure with
    | some x, some y =>
      let d : Int := (x - y).natAbs
      if (s.levelsOf p.axle).imbalance < d then s.raisePair p
      else if d ≤ (s.levelsOf p.axle).imbalanceRelease then s.clearPair p
      else s
    | _, _ => s
  else s

/-! ## Re-evaluation on a target change -/

/-- Re-evaluate one record: only a LIVE one that holds a P_cold (R96, R97). -/
def State.reevaluateAt (s : State) (p : Pos) : State :=
  match (s.wheel p).livePressure with
  | some c => s.judgePressure p none c
  | none => s

/-- Re-evaluate the records of one axle, then its pairs (R96). -/
def State.reevaluateAxle (s : State) (a : Fin 10) : State :=
  (((s.atEach (axlePositions a) State.reevaluateAt)).checkPair ⟨a, 0⟩).checkPair ⟨a, 2⟩

/-- A target change of the present axles that a test picks, axles ascending (R96). -/
def State.targetChange (s : State) (affected : Fin 10 → Bool) : State :=
  ((List.finRange 10).filter fun a => (s.axle a).present && affected a).foldl State.reevaluateAxle s

end Sys2Proof.Machine
end

