-- ==== Sys2Proof/Machine/Operands.lean ====
section
/-! DEFINITION. Parameters of commands: their ranges and value codes (R3, R145, R178). -/

namespace Sys2Proof.Machine

/-- An axle parameter, 0 to 9. -/
def axleOf (n : Nat) : Option (Fin 10) := if h : n < 10 then some ⟨n, h⟩ else none

/-- A slot parameter, 0 to 3. -/
def slotOf (n : Nat) : Option (Fin 4) := if h : n < 4 then some ⟨n, h⟩ else none

/-- A position parameter. -/
def posOf (axle slot : Byte) : Option Pos :=
  match axleOf axle.toNat, slotOf slot.toNat with
  | some a, some t => some ⟨a, t⟩
  | _, _ => none

/-- A position parameter that names a valid slot under the axle table (R13, check 2). -/
def State.validPosOf (s : State) (axle slot : Byte) : Option Pos :=
  match posOf axle slot with
  | some p => if s.validPos p then some p else none
  | none => none

/-- A yes/no code (R178). -/
def flagOf (n : Nat) : Option Bool :=
  match n with
  | 0 => some false
  | 1 => some true
  | _ => none

/-- A unit code (R178). -/
def unitOf (n : Nat) : Option AxleUnit :=
  match n with
  | 0 => some .truck
  | 1 => some .trailer
  | _ => none

/-- An axle kind code (R178). -/
def kindOf (n : Nat) : Option AxleKind :=
  match n with
  | 0 => some .single
  | 1 => some .dual
  | _ => none

/-- A profile number, 0 to 3. -/
def profileOf (n : Nat) : Option (Fin 4) := slotOf n

/-- A profile field number, 0 to 10 (R60). -/
def fieldOf (n : Nat) : Option (Fin 11) := if h : n < 11 then some ⟨n, h⟩ else none

/-- An axle record from its six codes; none when any is not one of its field's values (R8, R23). -/
def StoredAxle.decode (c : StoredAxle) : Option AxleRecord :=
  match flagOf c.present, unitOf c.unit, kindOf c.kind, profileOf c.profile, flagOf c.tipCritical, flagOf c.liftCapable with
  | some present, some u, some k, some profile, some tip, some lift => some ⟨present, u, k, profile, tip, lift⟩
  | _, _, _, _, _, _ => none

/-- The code of a yes/no field (R178). -/
def flagCode (b : Bool) : Nat := if b then 1 else 0

/-- The code of a unit (R178). -/
def AxleUnit.code : AxleUnit → Nat
  | .truck => 0
  | .trailer => 1

/-- The code of an axle kind (R178). -/
def AxleKind.code : AxleKind → Nat
  | .single => 0
  | .dual => 1

/-- The stored form of an axle record (R157). -/
def AxleRecord.stored (r : AxleRecord) : StoredAxle :=
  ⟨flagCode r.present, r.unit.code, r.kind.code, r.profile.val, flagCode r.tipCritical, flagCode r.liftCapable⟩

/-- The load values (R178); the value is two bytes and its high byte is 00h (R187). -/
def loadOf (v : Half) : Option LoadState :=
  match v.toNat with
  | 0 => some .unladen
  | 1 => some .laden
  | _ => none

/-- The body values (R178, R187). -/
def bodyOf (v : Half) : Option BodyState :=
  match v.toNat with
  | 0 => some .down
  | 1 => some .raising
  | 2 => some .raised
  | 3 => some .lowering
  | _ => none

/-- The trailer values (R178, R187). -/
def trailerOf (v : Half) : Option TrailerState :=
  match v.toNat with
  | 0 => some .absent
  | 1 => some .present
  | _ => none

/-- The motion values (R178, R187). -/
def motionOf (v : Half) : Option MotionState :=
  match v.toNat with
  | 0 => some .stopped
  | 1 => some .moving
  | _ => none

/-- A set of axles (R178); none when any of bits 10 to 15 is set. -/
def axleSetOf (v : Half) : Option (BitVec 10) :=
  if v.toNat < 1024 then some (v.setWidth 10) else none

/-- The lifted set as taken (R145): axles that are absent or not lift-capable are left out. -/
def State.admittedLifts (s : State) (named : BitVec 10) : BitVec 10 :=
  BitVec.ofFnLE fun a => named.getLsbD a.val && (s.axle a).present && (s.axle a).liftCapable

/-- A condition kind from its code (R178). -/
def conditionOf (n : Nat) : Option Condition := Condition.all[n]?

/-- The kind parameter of ACK_ALERT (R110, R178): FFh is ALL. -/
inductive AckKind where
  | one (k : Condition)
  | every
  deriving DecidableEq, Repr

/-- Decode the kind parameter of ACK_ALERT. -/
def ackKindOf (n : Nat) : Option AckKind :=
  if n = 0xFF then some .every
  else match conditionOf n with
    | some k => some (.one k)
    | none => none

/-- Whether a kind parameter covers a kind (R110). -/
def AckKind.covers : AckKind → Condition → Bool
  | .every, _ => true
  | .one k, j => k == j

/-- The configuration items (R151) in the order of their codes (R178). -/
inductive ConfigItem where
  | movingLimit
  | stoppedLimit
  | referenceTemp
  | pattern
  | mask
  | rssiFloor
  | learnTimeout
  | supplyThreshold
  deriving DecidableEq, Repr

/-- A configuration item from its code (R178). -/
def configItemOf (n : Nat) : Option ConfigItem :=
  match n with
  | 0 => some .movingLimit
  | 1 => some .stoppedLimit
  | 2 => some .referenceTemp
  | 3 => some .pattern
  | 4 => some .mask
  | 5 => some .rssiFloor
  | 6 => some .learnTimeout
  | 7 => some .supplyThreshold
  | _ => none

/-- Write one configuration item, clamped to its range or taken whole (R151, R152). -/
def ConfigItems.write (c : ConfigItems) (item : ConfigItem) (v : BitVec 32) : ConfigItems :=
  match item with
  | .movingLimit => { c with movingLimit := clampInt 30 600 v.toInt }
  | .stoppedLimit => { c with stoppedLimit := clampInt 300 7200 v.toInt }
  | .referenceTemp => { c with referenceTemp := clampInt (-20) 40 v.toInt }
  | .pattern => { c with pattern := v }
  | .mask => { c with mask := v }
  | .rssiFloor => { c with rssiFloor := clampInt (-120) (-40) v.toInt }
  | .learnTimeout => { c with learnTimeout := clampInt 10 600 v.toInt }
  | .supplyThreshold => { c with supplyThreshold := clampInt 80 240 v.toInt }

/-- The four-byte value of a configuration item (R178, R187). -/
def ConfigItems.value (c : ConfigItems) : ConfigItem → BitVec 32
  | .movingLimit => BitVec.ofInt 32 c.movingLimit
  | .stoppedLimit => BitVec.ofInt 32 c.stoppedLimit
  | .referenceTemp => BitVec.ofInt 32 c.referenceTemp
  | .pattern => c.pattern
  | .mask => c.mask
  | .rssiFloor => BitVec.ofInt 32 c.rssiFloor
  | .learnTimeout => BitVec.ofInt 32 c.learnTimeout
  | .supplyThreshold => BitVec.ofInt 32 c.supplyThreshold

/-- Every item clamped to its range, as a load takes a stored configuration (R151). -/
def ConfigItems.clamped (c : ConfigItems) : ConfigItems where
  movingLimit := clampInt 30 600 c.movingLimit
  stoppedLimit := clampInt 300 7200 c.stoppedLimit
  referenceTemp := clampInt (-20) 40 c.referenceTemp
  pattern := c.pattern
  mask := c.mask
  rssiFloor := clampInt (-120) (-40) c.rssiFloor
  learnTimeout := clampInt 10 600 c.learnTimeout
  supplyThreshold := clampInt 80 240 c.supplyThreshold

end Sys2Proof.Machine
end

