-- ==== Sys2Proof/Machine/Permit.lean ====
section
/-! DEFINITION. The tip permit unit's evaluation and latch (R114 to R124). -/

namespace Sys2Proof.Machine

/-- A considered axle (R115). -/
def State.considered (s : State) (a : Fin 10) : Bool :=
  (s.axle a).present && (s.axle a).tipCritical
    && ((s.axle a).unit == .truck || s.vehicle.trailer == .present)
    && !s.vehicle.lifted.getLsbD a.val

/-- The valid slots of an axle in slot order. -/
def State.validSlots (s : State) (a : Fin 10) : List Pos := (axlePositions a).filter s.validPos

/-- The causes of one slot in the order of R116. -/
def WheelRecord.causes (r : WheelRecord) : List Cause :=
  (match r.state with
    | .empty => [Cause.noSensor]
    | .live => []
    | _ => [Cause.notLive])
  ++ (if r.conditions.lowAlarm then [Cause.lowAlarm] else [])
  ++ (if r.conditions.leak then [Cause.leak] else [])
  ++ (if r.conditions.imbalance then [Cause.imbalance] else [])

/-- The left and right means of an axle (R117); none when a valid slot is not LIVE with a P_cold. -/
def State.sideMeans (s : State) (a : Fin 10) : Option (Int × Int) :=
  match (s.axle a).kind with
  | .single =>
    match (s.wheel ⟨a, 0⟩).livePressure, (s.wheel ⟨a, 3⟩).livePressure with
    | some lo, some ro => some (lo, ro)
    | _, _ => none
  | .dual =>
    match (s.wheel ⟨a, 0⟩).livePressure, (s.wheel ⟨a, 1⟩).livePressure,
        (s.wheel ⟨a, 2⟩).livePressure, (s.wheel ⟨a, 3⟩).livePressure with
    | some lo, some li, some ri, some ro => some ((lo + li).tdiv 2, (ri + ro).tdiv 2)
    | _, _, _, _ => none

/-- The side-balance reason of an axle (R117). -/
def State.sideReason (s : State) (a : Fin 10) : List Reason :=
  match s.sideMeans a with
  | some (l, r) => if (s.levelsOf a).side < ((l - r).natAbs : Int) then [⟨some a, none, .sideBalance⟩] else []
  | none => []

/-- The reasons of one considered axle (R118). -/
def State.axleReasons (s : State) (a : Fin 10) : List Reason :=
  ((s.validSlots a).flatMap fun p => (s.wheel p).causes.map fun c => ⟨some p.axle, some p.slot, c⟩) ++ s.sideReason a

/-- The full list of reasons (R115, R118). -/
def State.fullReasons (s : State) : List Reason :=
  match (List.finRange 10).filter s.considered with
  | [] => [⟨none, none, .noCriticalAxle⟩]
  | axles => axles.flatMap s.axleReasons

/-- The raw verdict (R118). -/
def State.rawVerdict (s : State) : Verdict := if s.fullReasons.isEmpty then .granted else .withheld

/-- The verdict and latch after an evaluation (the table of R120). -/
def latchRule (body : BodyState) (before raw : Verdict) : Verdict × Bool :=
  match body, before, raw with
  | .down, _, raw => (raw, false)
  | _, .granted, .granted => (.granted, false)
  | _, .granted, .withheld => (.withheld, true)
  | _, .withheld, _ => (.withheld, true)

/-- Write the verdict record and set PERMIT if the verdict or the latch changes (R124). -/
def State.putPermit (s : State) (x : Permit) : State :=
  ({ s with permit := x }).setFlagIf (x.verdict != s.permit.verdict || x.latched != s.permit.latched) .permit

/-- The record an evaluation gives (R118, R120). -/
def State.evaluatedPermit (s : State) : Permit :=
  let out := latchRule s.vehicle.body s.permit.verdict s.rawVerdict
  { verdict := out.1
    basis := .evaluated
    latched := out.2
    reasons := s.fullReasons.take 8
    more := decide (8 < s.fullReasons.length) }

/-- An evaluation in an event; none is made while the basis is STARTING (R119, R122). -/
def State.evaluate (s : State) : State :=
  match s.permit.basis with
  | .starting => s
  | .evaluated => s.putPermit s.evaluatedPermit

/-- The first evaluation, at the completion of the load (R122). -/
def State.firstEvaluation (s : State) : State := s.putPermit s.evaluatedPermit

/-- The permit unit's part of a body write (R120, R121), or of R122 while the basis is STARTING; the item holds its new
value. -/
def State.permitBodyWrite (s : State) (before : BodyState) : State :=
  match s.permit.basis with
  | .evaluated => s.evaluate
  | .starting =>
    let latched :=
      if s.vehicle.body = .down then false
      else if before = .down then true
      else s.permit.latched
    s.putPermit { s.permit with latched := latched }

end Sys2Proof.Machine
end

