-- ==== Sys2Proof/Machine/Learning.lean ====
section
/-! DEFINITION. The learn sequencer (R127 to R143): LEARN_START, LEARN_SKIP, LEARN_FINISH, LEARN_ABORT,
POSITION_TIMER_EXPIRY and the staging of LEARN entries. -/

namespace Sys2Proof.Machine

/-- The position list of a session (R128). -/
def State.positionList (s : State) (r : AxleRange) : List Pos :=
  allPos.filter fun p => r.covers p.axle.val && s.validPos p

/-- The position at the cursor. -/
def Session.here (l : Session) : Option Pos := l.positions[l.cursor]?

/-- The expected channel of a position (R128). -/
def State.expectedChannel (s : State) (p : Pos) : Channel :=
  match (s.axle p.axle).unit with
  | .truck => .rx0
  | .trailer => .rx1

/-- Whether a range holds a present TRAILER axle (R128, R129). -/
def State.rangeHasTrailer (s : State) (r : AxleRange) : Bool :=
  (List.finRange 10).any fun a => r.covers a.val && (s.axle a).present && (s.axle a).unit == .trailer

/-- A session ends with an outcome, and LEARN is set on both ports (R132 to R138). -/
def State.endSession (s : State) (o : LearnOutcome) : State :=
  ({ s with learn := ⟨none, o⟩ }).setFlagBoth .learn

/-! ## Applying a result (R139, R140) -/

/-- One staging entry applied to the map as the entries before it left it (R139). DESIGN CHOICE (log entry 14): each slot
hands over its clearings and its pair's before the next slot (R140). -/
def State.placeStaged (s : State) (e : Pos × Option SensorId) : State :=
  match e.2 with
  | none => s
  | some id =>
    match s.lookup id with
    | some q => if q = e.1 then s.freshAt e.1 id else (s.emptyAt q).freshAt e.1 id
    | none => s.freshAt e.1 id

/-- The result applied as one map change; the permit unit evaluates at the end of the event (R140). -/
def State.applyResult (s : State) (staging : List (Pos × Option SensorId)) : State :=
  let s := staging.foldl State.placeStaged s
  (({ s with generation := s.generation + 1 }).setFlagBoth .image).setFlagIf
    (staging.any fun e => e.2.isSome) .wheel

/-! ## Advancing the cursor (R132, R133) -/

/-- An entry is appended for the cursor's position and the cursor advances: the timer restarts, or the session
completes. -/
def State.advance (s : State) (l : Session) (id : Option SensorId) : State :=
  match l.here with
  | none => (s.applyResult l.staging).endSession .completed
  | some p =>
    let l' := { l with cursor := l.cursor + 1, staging := l.staging ++ [(p, id)], timerStart := s.uptime }
    if l'.cursor < l.positions.length then
      ({ s with learn := { s.learn with session := some l' } }).setFlagBoth .learn
    else (s.applyResult l'.staging).endSession .completed

/-- Whether advancing would complete the session. -/
def Session.atLast (l : Session) : Bool := decide (l.positions.length ≤ l.cursor + 1)

/-- The tests of R131 for an entry at the cursor. -/
def State.stages (s : State) (l : Session) (e : QueueEntry) : Bool :=
  match l.here with
  | none => false
  | some p =>
    s.expectedChannel p == e.channel
      && decide (s.config.rssiFloor ≤ e.rssi)
      && !l.staging.any (fun x => x.2 == some e.telegram.id)
      && match s.lookup e.telegram.id with
        | some q => !s.protectedAxle q.axle.val
        | none => true

/-- The hand-over of a LEARN entry to the sequencer (R44, R131, R132). -/
def State.handOver (s : State) (e : QueueEntry) : State :=
  match s.learn.session with
  | some l => if e.telegram.kind == .learn && s.stages l e then s.advance l (some e.telegram.id) else s
  | none => s

/-- Whether a hand-over applies a result (R132). -/
def State.handOverApplies (s : State) (e : QueueEntry) : Bool :=
  match s.learn.session with
  | some l => e.telegram.kind == .learn && s.stages l e && l.atLast
  | none => false

/-! ## The position timer (R136) -/

/-- Whether the wait at the cursor has reached the timeout in force. -/
def State.timerReached (s : State) (l : Session) : Bool :=
  decide (10 * s.config.learnTimeout ≤ (elapsed s.uptime l.timerStart : Int))

/-- A position timer expiry is due (R136). -/
def State.timerDue (s : State) : Bool :=
  match s.learn.session with
  | some l => s.supply.state == .normal && s.timerReached l
  | none => false

/-- The expiry, if due (R136, R153). -/
def State.expireTimer (s : State) : State := if s.timerDue then s.endSession .timedOut else s

/-- POSITION_TIMER_EXPIRY (R136); one that is not due is not taken (log entry 2). -/
def execPositionTimerExpiry (s : State) : Result := .next s.expireTimer

/-! ## Commands -/

/-- The first check of LEARN_START that fails (R129). -/
def State.learnStartFailure (s : State) (expected : Generation) (first last : Byte) : Option Status :=
  let r : AxleRange := ⟨first.toNat, last.toNat⟩
  firstFailure [
    (!s.loading, .busy),
    (s.learn.session.isNone, .busy),
    (decide (r.lo ≤ r.hi) && decide (r.hi ≤ 9), .range),
    (expected == s.generation, .stale),
    ((List.finRange 10).any fun a => r.covers a.val && (s.axle a).present, .range),
    (!(List.finRange 10).any fun a => r.covers a.val && s.protectedAxle a.val, .underProtection),
    (!s.rangeHasTrailer r || s.vehicle.trailer == .present, .noTrailer)]

/-- A session started over a range (R130). -/
def State.startSession (s : State) (r : AxleRange) : State :=
  ({ s with learn := ⟨some ⟨r, s.positionList r, 0, [], s.uptime⟩, .none⟩ }).setFlagBoth .learn

/-- LEARN_START (R129, R130). -/
def execLearnStart (port : PortId) (expected : Generation) (first last : Byte) (s : State) : Result :=
  .next (s.transact port fun s =>
    match s.learnStartFailure expected first last with
    | some st => s.refuse port st
    | none =>
      (s.startSession ⟨first.toNat, last.toNat⟩).answer port .ok
        [BitVec.ofNat 8 (s.positionList ⟨first.toNat, last.toNat⟩).length])

/-- LEARN_SKIP (R133): KEEP for the cursor's position; the permit unit evaluates when a result is applied. -/
def execLearnSkip (port : PortId) (s : State) : Result :=
  .next (s.unlessLoading port fun s =>
    match s.learn.session with
    | none => s.refuse port .noSession
    | some l =>
      let t := s.advance l none
      (if l.atLast then t.evaluate else t).answer port .ok [BitVec.ofNat 8 (l.cursor + 1)])

/-- LEARN_FINISH (R134). -/
def execLearnFinish (port : PortId) (s : State) : Result :=
  .next (s.unlessLoading port fun s =>
    match s.learn.session with
    | none => s.refuse port .noSession
    | some l =>
      ((s.applyResult l.staging).endSession .finishedEarly).evaluate.answer port .ok
        [BitVec.ofNat 8 (l.staging.filter fun e => e.2.isSome).length])

/-- LEARN_ABORT (R135). -/
def execLearnAbort (port : PortId) (s : State) : Result :=
  .next (s.unlessLoading port fun s =>
    match s.learn.session with
    | none => s.refuse port .noSession
    | some _ => (s.endSession .aborted).answer port .ok [])

end Sys2Proof.Machine
end

