-- ==== Sys2Proof/Machine/Evaluator.lean ====
section
/-! DEFINITION. The taking of a queue entry (R43, R44, R76 to R82): ENTRY_TAKEN. -/

namespace Sys2Proof.Machine

/-! ## The record's fields -/

/-- The RSSI field of a channel takes a value (R79). -/
def WheelRecord.recordRssi (r : WheelRecord) (ch : Channel) (v : Int) : WheelRecord :=
  match ch with
  | .rx0 => { r with rssi0 := some v }
  | .rx1 => { r with rssi1 := some v }

/-- The RSSI fields after an accepted entry: the other channel's becomes absent (R79). -/
def WheelRecord.acceptRssi (r : WheelRecord) (ch : Channel) (v : Int) : WheelRecord :=
  match ch with
  | .rx0 => { r with rssi0 := some v, rssi1 := none }
  | .rx1 => { r with rssi0 := none, rssi1 := some v }

/-- The repeat test (R78). -/
def WheelRecord.isRepeat (r : WheelRecord) (e : QueueEntry) : Bool :=
  match r.lastSequence, r.lastAccept with
  | some q, some t => q == e.telegram.sequence && decide (elapsed e.arrival t < 300)
  | _, _ => false

/-- The fields that an accepted entry writes (R80 steps 3 to 5, R81 step 6). -/
def WheelRecord.accept (r : WheelRecord) (e : QueueEntry) (now : Uptime) : WheelRecord :=
  { r.acceptRssi e.channel e.rssi with
    state := .live
    stale := false
    lastSequence := some e.telegram.sequence
    lastAccept := some e.arrival
    silenceRef := some now }

/-- The record becomes LIVE; SILENT clears if it was SILENT (R80, R81). -/
def State.acceptEntry (s : State) (p : Pos) (e : QueueEntry) : State :=
  let wasSilent := (s.wheel p).state == .silent
  let s := s.modWheel p fun r => r.accept e s.uptime
  if wasSilent then s.clearCond p .silent else s

/-! ## FAULT entries (R80) -/

/-- The fault code of a fault byte: 1 to 254, else absent (R80). -/
def faultCodeOf (b : BitVec 8) : Option (BitVec 8) := if b.toNat = 0 ∨ b.toNat = 255 then none else some b

/-- An accepted FAULT entry (R80). -/
def State.acceptFault (s : State) (p : Pos) (e : QueueEntry) : State :=
  (((s.raiseCond p .sensorFault).modWheel p fun r => { r with faultCode := faultCodeOf e.telegram.tempCode })).acceptEntry p e

/-! ## Readings (R81) -/

/-- Step 1: codes, battery and sensor fault (R81, R82). BATTERY_LOW is handed on before SENSOR_FAULT. -/
def State.readCodes (s : State) (p : Pos) (t : Telegram) : State :=
  let s := s.modWheel p fun r =>
    { r with pressureCode := some t.pressureCode, tempCode := some t.tempCode, batteryLow := t.batteryLow }
  let s := if t.batteryLow then s.raiseCond p .batteryLow else s.clearCond p .batteryLow
  if t.pressureCode.toNat = 511 ∧ t.tempCode.toNat = 255 then s
  else if s.active p .sensorFault then
    (s.clearCond p .sensorFault).modWheel p fun r => { r with faultCode := none }
  else s

/-- The P_cold of a reading at a position, from the inputs as they stand (R46 to R54). -/
def State.coldOf (s : State) (p : Pos) (t : Telegram) : Int :=
  coldPressure (gaugeOf t.pressureCode) s.vehicle.ambient
    (tempUsed t.tempCode (s.wheel p).heldTemp s.config.referenceTemp) s.config.referenceTemp

/-- Step 2: the compensation (R47, R48, R54). -/
def State.compensate (s : State) (p : Pos) (t : Telegram) : State :=
  s.modWheel p fun r =>
    { r with
      overRange := decide (t.pressureCode.toNat = 511)
      heldTemp := heldAfter t.tempCode r.heldTemp
      pCold := some (s.coldOf p t) }

/-- The confirmation number of a reading (R86). -/
def TelegramKind.confirmation : TelegramKind → Nat
  | .alert => 1
  | _ => 2

/-- An accepted reading, in the steps of R81. -/
def State.acceptReading (s : State) (p : Pos) (e : QueueEntry) : State :=
  let t := e.telegram
  let cold := s.coldOf p t
  let s := s.readCodes p t
  let s := s.compensate p t
  let s := s.judgePressure p (some t.kind.confirmation) cold
  let s := s.judgeTemp p t.tempCode
  let s := s.leakStep p (t.kind == .alert) cold e.arrival
  let s := s.acceptEntry p e
  s.checkPair p

/-! ## Taking an entry (R44) -/

/-- The LOST mark: pending state and leak count cleared in every record (R76). -/
def State.resetCounts (s : State) : State :=
  { s with wheels := tabulate fun i => { s.wheels[i] with pending := .clear, leakCount := 0 } }

/-- Whether the record at a position accepts an entry (R77, R78). -/
def WheelRecord.accepts (r : WheelRecord) (e : QueueEntry) : Bool :=
  match r.state with
  | .awaiting => !r.isRepeat e
  | .live => !r.isRepeat e
  | .silent => true
  | .detached => false
  | .empty => false

/-- An entry that a record does not accept: a repeat, or one taken at a DETACHED record, records its RSSI (R77, R78).
No entry resolves to an EMPTY record (R73). -/
def State.noteRssi (s : State) (p : Pos) (e : QueueEntry) : State :=
  match (s.wheel p).state with
  | .empty => s
  | _ => s.modWheel p fun r => r.recordRssi e.channel e.rssi

/-- An entry applied to the record at a position (R77). -/
def State.applyEntry (s : State) (p : Pos) (e : QueueEntry) : State :=
  if (s.wheel p).accepts e then
    if e.telegram.kind = .fault then s.acceptFault p e else s.acceptReading p e
  else s.noteRssi p e

/-- Whether an entry is accepted at the slot its ID resolves to. -/
def State.acceptsEntry (s : State) (e : QueueEntry) : Bool :=
  match s.lookup e.telegram.id with
  | some p => (s.wheel p).accepts e
  | none => false

/-- The reading of an entry at the slot its ID resolves to; none if it is not mapped (R44, step 3). -/
def State.readEntry (s : State) (e : QueueEntry) : State :=
  match s.lookup e.telegram.id with
  | some p => s.applyEntry p e
  | none => s

/-- The handling of an entry taken from the queue (R44), with WHEEL (R74) and one evaluation at the end of the event
when a record accepted it or a learning result was applied (R119). -/
def State.takeEntry (s : State) (e : QueueEntry) : State :=
  let s := if e.lost then s.resetCounts else s
  let read := s.readEntry e
  let done := s.noteWheels (read.handOver e)
  if s.acceptsEntry e || read.handOverApplies e then done.evaluate else done

/-- ENTRY_TAKEN (R43, R44); with an empty queue there is no entry to take (log entry 2). -/
def execEntryTaken (s : State) : Result :=
  match s.queue with
  | [] => .next s
  | e :: rest => .next (({ s with queue := rest }).takeEntry e)

end Sys2Proof.Machine
end

