-- ==== Sys2Proof/Machine/Map.lean ====
section
/-! DEFINITION. Map edits (R12 to R27): MAP_ASSIGN, MAP_REMOVE, MAP_SET_AXLE, MAP_MOVE, MAP_PROTECT. -/

namespace Sys2Proof.Machine

/-- What every taken edit of slots does besides its own changes (R14): the generation, IMAGE, WHEEL if a record changed,
and one evaluation. -/
def State.editTaken (s : State) (wheel : Bool) : State :=
  ((({ s with generation := s.generation + 1 }).setFlagBoth .image).setFlagIf wheel .wheel).evaluate

/-! ## MAP_ASSIGN (R21) -/

/-- Checks 3 to 7 of R13 for MAP_ASSIGN. -/
def State.assignFailure (s : State) (expected : Generation) (p : Pos) (id : SensorId) : Option Status :=
  firstFailure [
    (validId id, .badId),
    (expected == s.generation, .stale),
    (!s.protectedAxle p.axle.val, .underProtection),
    (!s.sessionAxle p.axle.val, .busy),
    ((s.lookup id).isNone || s.lookup id == some p, .inUse)]

/-- The ID placed at the slot: nothing changes where the slot already holds it (R21). -/
def State.assign (s : State) (p : Pos) (id : SensorId) : State :=
  if s.slotId p = some id then s.editTaken false else (s.freshAt p id).editTaken true

/-- MAP_ASSIGN (R21). -/
def execMapAssign (port : PortId) (expected : Generation) (axle slot : Byte) (id : SensorId) (s : State) : Result :=
  .next (s.unlessLoading port fun s =>
    match s.validPosOf axle slot with
    | none => s.refuse port .range
    | some p =>
      match s.assignFailure expected p id with
      | some st => s.refuse port st
      | none => (s.assign p id).answer port .ok [])

/-! ## MAP_REMOVE (R22) -/

/-- Checks 4 to 6 of R13. -/
def State.axleEditFailure (s : State) (expected : Generation) (a : Fin 10) : Option Status :=
  firstFailure [
    (expected == s.generation, .stale),
    (!s.protectedAxle a.val, .underProtection),
    (!s.sessionAxle a.val, .busy)]

/-- The position cleared (R22). -/
def State.remove (s : State) (p : Pos) : State :=
  match s.slotId p with
  | some _ => (s.emptyAt p).editTaken true
  | none => s.editTaken false

/-- MAP_REMOVE (R22). -/
def execMapRemove (port : PortId) (expected : Generation) (axle slot : Byte) (s : State) : Result :=
  .next (s.unlessLoading port fun s =>
    match s.validPosOf axle slot with
    | none => s.refuse port .range
    | some p =>
      match s.axleEditFailure expected p.axle with
      | some st => s.refuse port st
      | none => (s.remove p).answer port .ok [])

/-! ## MAP_SET_AXLE (R23 to R25) -/

/-- The slots of an axle that a new axle record makes invalid (R24). -/
def State.slotsLost (s : State) (a : Fin 10) (r : AxleRecord) : List Pos :=
  (axlePositions a).filter fun p => s.validPos p && !r.validSlot p.slot

/-- The axle leaves the lifted set when it is left absent or not lift-capable; VEHICLE is set on both ports (R24, R144). -/
def State.dropLift (s : State) (a : Fin 10) : State :=
  if s.vehicle.lifted.getLsbD a.val && !((s.axle a).present && (s.axle a).liftCapable) then
    ({ s with vehicle := { s.vehicle with lifted := s.vehicle.lifted &&& ~~~BitVec.twoPow 10 a.val } }).setFlagBoth .vehicle
  else s

/-- The effect of a unit change while the trailer is ABSENT (R25). -/
def State.unitChange (s : State) (a : Fin 10) (old : AxleRecord) : State :=
  if s.vehicle.trailer = .absent ∧ old.unit ≠ (s.axle a).unit then
    match (s.axle a).unit with
    | .trailer => s.detachAll (axlePositions a)
    | .truck => (s.atEach (axlePositions a) State.attachAt).atEach (axlePositions a) State.clearPair
  else s

/-- One axle record written. -/
def State.writeAxle (s : State) (a : Fin 10) (r : AxleRecord) : State :=
  { s with axles := s.axles.set a.val r a.isLt }

/-- The changes of MAP_SET_AXLE to map, records and lifted set (R24, R25), before R14's own. -/
def State.setAxle (s : State) (a : Fin 10) (r : AxleRecord) : State :=
  let old := s.axle a
  let s := (s.emptyAll (s.slotsLost a r)).writeAxle a r
  let s := (s.unitChange a old).dropLift a
  if old.profile ≠ r.profile then s.targetChange fun b => b == a else s

/-- MAP_SET_AXLE (R23). -/
def execMapSetAxle (port : PortId) (expected : Generation) (axle present unit kind profile tipCritical liftCapable : Byte)
    (s : State) : Result :=
  .next (s.unlessLoading port fun s =>
    match axleOf axle.toNat, StoredAxle.decode ⟨present.toNat, unit.toNat, kind.toNat, profile.toNat,
        tipCritical.toNat, liftCapable.toNat⟩ with
    | some a, some r =>
      match s.axleEditFailure expected a with
      | some st => s.refuse port st
      | none => ((s.setAxle a r).editTaken (wheelsChanged s (s.setAxle a r))).answer port .ok []
    | _, _ => s.refuse port .range)

/-! ## MAP_MOVE (R26, R27) -/

/-- The two rectangles of a move, and whether it clears (R26). -/
structure Move where
  srcAxle : Nat
  srcSlot : Nat
  dstAxle : Nat
  dstSlot : Nat
  axles : Nat
  slots : Nat
  clears : Bool
  deriving DecidableEq, Repr

/-- The mode codes (R178): 0 KEEP, 1 CLEAR. -/
def moveOf (srcAxle srcSlot axleCount slotCount dstAxle dstSlot mode : Byte) : Option Move :=
  match flagOf mode.toNat with
  | some clears =>
    if srcAxle.toNat + axleCount.toNat ≤ 9 ∧ dstAxle.toNat + axleCount.toNat ≤ 9 ∧ srcSlot.toNat + slotCount.toNat ≤ 3
        ∧ dstSlot.toNat + slotCount.toNat ≤ 3 then
      some ⟨srcAxle.toNat, srcSlot.toNat, dstAxle.toNat, dstSlot.toNat, axleCount.toNat, slotCount.toNat, clears⟩
    else none
  | none => none

/-- A position lies in the source rectangle. -/
def Move.fromHere (m : Move) (p : Pos) : Bool :=
  decide (m.srcAxle ≤ p.axle.val ∧ p.axle.val ≤ m.srcAxle + m.axles ∧ m.srcSlot ≤ p.slot.val ∧ p.slot.val ≤ m.srcSlot + m.slots)

/-- A position lies in the destination rectangle. -/
def Move.toHere (m : Move) (p : Pos) : Bool :=
  decide (m.dstAxle ≤ p.axle.val ∧ p.axle.val ≤ m.dstAxle + m.axles ∧ m.dstSlot ≤ p.slot.val ∧ p.slot.val ≤ m.dstSlot + m.slots)

/-- An axle of either rectangle. -/
def Move.namesAxle (m : Move) (a : Nat) : Bool :=
  decide (m.srcAxle ≤ a ∧ a ≤ m.srcAxle + m.axles) || decide (m.dstAxle ≤ a ∧ a ≤ m.dstAxle + m.axles)

/-- The destination of a source position (R26). The remainders change nothing inside the rectangles. -/
def Move.destination (m : Move) (p : Pos) : Pos :=
  ⟨⟨(p.axle.val - m.srcAxle + m.dstAxle) % 10, by omega⟩, ⟨(p.slot.val - m.srcSlot + m.dstSlot) % 4, by omega⟩⟩

/-- The source of a destination position (R26). -/
def Move.source (m : Move) (p : Pos) : Pos :=
  ⟨⟨(p.axle.val - m.dstAxle + m.srcAxle) % 10, by omega⟩, ⟨(p.slot.val - m.dstSlot + m.srcSlot) % 4, by omega⟩⟩

/-- Checks 3 to 6 of R26. -/
def State.moveFailure (s : State) (expected : Generation) (m : Move) : Option Status :=
  firstFailure [
    (expected == s.generation, .stale),
    (!(List.finRange 10).any fun a => m.namesAxle a.val && s.protectedAxle a.val, .underProtection),
    (!(List.finRange 10).any fun a => m.namesAxle a.val && s.sessionAxle a.val, .busy),
    (allPos.all fun p => !(m.fromHere p && (s.slotId p).isSome) || s.validPos (m.destination p), .range)]

/-- A position's record is carried away: a source position that holds an ID (R27, step 2). -/
def State.movesAway (s : State) (m : Move) (p : Pos) : Bool := m.fromHere p && (s.slotId p).isSome

/-- A sensor arrives at a position (R27, step 2). -/
def State.arrivesAt (s : State) (m : Move) (p : Pos) : Bool := m.toHere p && (s.slotId (m.source p)).isSome

/-- A position outside the source rectangle whose content a move overwrites or clears (R27, steps 3 and 4). -/
def State.overrun (s : State) (m : Move) (p : Pos) : Bool :=
  m.toHere p && !m.fromHere p && (m.clears || s.arrivesAt m p)

/-- A position that R20 counts: vacated, placed, cleared or unmapped (R27). -/
def State.touchedBy (s : State) (m : Move) (p : Pos) : Bool := m.fromHere p || s.arrivesAt m p || s.overrun m p

/-- The conditions that clear on a carried record (R18): all but SENSOR_FAULT and BATTERY_LOW, or all at a DETACHED
destination. -/
def carriedClears (detached : Bool) : List Condition :=
  if detached then Condition.all
  else [.lowWarn, .lowAlarm, .highWarn, .hotWarn, .hotAlarm, .leak, .imbalance, .silent]

/-- All the clearings of a move, in the order of R27's steps (R74, R102): a source position that holds no sensor (step 1), the
records carried (step 2), the records that the move overwrites or clears (step 4), then R20 for every pair touched, the lower
slot first (R107). Within a step the positions go in slot order (DESIGN CHOICE, log entry 14). -/
def State.moveClearings (s : State) (m : Move) : State :=
  let vacated := s.atEach (allPos.filter fun p => m.fromHere p && !s.movesAway m p) fun t p => t.clearOwn p Condition.all
  let carried := vacated.atEach (allPos.filter (s.movesAway m)) fun t p =>
    t.clearOwn p (carriedClears (s.detachedSlot (m.destination p)))
  let unmapped := carried.atEach (allPos.filter (s.overrun m)) fun t p => t.clearOwn p Condition.all
  unmapped.atEach (allPos.filter (s.touchedBy m)) State.clearPair

/-- The re-addressing of the conditions that stay active on carried records, as one change (R108). -/
def State.moveAlerts (s : State) (m : Move) : State :=
  { s with alerts := s.alerts.readdress fun p => if s.movesAway m p then m.destination p else p }

/-- The slot map after a move, from the snapshot (R27). -/
def State.movedId (s : State) (m : Move) (p : Pos) : Option SensorId :=
  if s.arrivesAt m p then s.slotId (m.source p)
  else if m.fromHere p || s.overrun m p then none
  else s.slotId p

/-- The wheel table after a move, from the records with their conditions cleared (R16, R18, R27). -/
def State.movedRecord (s : State) (m : Move) (p : Pos) : WheelRecord :=
  if s.arrivesAt m p then (s.wheel (m.source p)).carried (s.detachedSlot p) s.uptime
  else if m.fromHere p || s.overrun m p then .empty
  else s.wheel p

/-- Slots and records placed in one step (R27). -/
def State.movePlaces (s : State) (m : Move) : State :=
  { s with
    slots := tabulate fun i => s.movedId m (posOfIdx i)
    wheels := tabulate fun i => s.movedRecord m (posOfIdx i) }

/-- A move changes a record: one is carried, or one that held a sensor is emptied (R27). -/
def State.moveTouchesRecord (s : State) (m : Move) : Bool :=
  allPos.any fun p => (m.fromHere p || s.overrun m p) && (s.slotId p).isSome

/-- A taken move (R27). -/
def State.move (s : State) (m : Move) : State :=
  (((s.moveClearings m).moveAlerts m).movePlaces m).editTaken (s.moveTouchesRecord m)

/-- MAP_MOVE (R26, R27). -/
def execMapMove (port : PortId) (expected : Generation) (srcAxle srcSlot axleCount slotCount dstAxle dstSlot mode : Byte)
    (s : State) : Result :=
  .next (s.unlessLoading port fun s =>
    match moveOf srcAxle srcSlot axleCount slotCount dstAxle dstSlot mode with
    | none => s.refuse port .range
    | some m =>
      match s.moveFailure expected m with
      | some st => s.refuse port st
      | none => (s.move m).answer port .ok [])

/-! ## MAP_PROTECT (R12) -/

/-- The range a MAP_PROTECT asks for (R12): action codes 0 CLEAR, 1 SET (R178); none when refused with RANGE. -/
def protectOf (action first last : Byte) : Option (Option AxleRange) :=
  match flagOf action.toNat with
  | some false => some none
  | some true =>
    if first.toNat ≤ last.toNat ∧ last.toNat ≤ 9 then some (some ⟨first.toNat, last.toNat⟩) else none
  | none => none

/-- MAP_PROTECT (R12). -/
def execMapProtect (port : PortId) (expected : Generation) (action first last : Byte) (s : State) : Result :=
  .next (s.unlessLoading port fun s =>
    match protectOf action first last with
    | none => s.refuse port .range
    | some r =>
      match firstFailure [(expected == s.generation, .stale), (s.learn.session.isNone, .busy)] with
      | some st => s.refuse port st
      | none =>
        (({ s with protect := r, generation := s.generation + 1 }).setFlagBoth .image).answer port .ok [])

end Sys2Proof.Machine
end

