-- ==== Sys2Proof/Machine/Silence.lean ====
section
/-! DEFINITION. Silence limits and expiries (R93 to R95): SILENCE_EXPIRY. -/

namespace Sys2Proof.Machine

/-- The silence limit in force for an axle, in tenths of a second (R93). -/
def State.silenceLimit (s : State) (a : Fin 10) : Int :=
  if s.vehicle.motion = .moving ∧ s.vehicle.lifted.getLsbD a.val = false then 10 * s.config.movingLimit
  else 10 * s.config.stoppedLimit

/-- Whether a record's silence has reached its limit (R94). -/
def State.silenceReached (s : State) (p : Pos) : Bool :=
  match (s.wheel p).silenceRef with
  | some t => decide (s.silenceLimit p.axle ≤ (elapsed s.uptime t : Int))
  | none => false

/-- Whether a record can expire: AWAITING or LIVE (R94). -/
def WheelState.expires : WheelState → Bool
  | .awaiting => true
  | .live => true
  | _ => false

/-- A silence expiry is due for a record (R94). -/
def State.expiryDue (s : State) (p : Pos) : Bool :=
  (s.wheel p).state.expires && s.supply.state == .normal && s.silenceReached p

/-- The changes of one silence expiry (R94): SILENT is raised before IMBALANCE clears. -/
def State.expireAt (s : State) (p : Pos) : State :=
  ((s.modWheel p fun r => { r with state := .silent, stale := r.pCold.isSome }).raiseCond p .silent).clearPair p

/-- The expiries due, in slot order (R94, R149, R153). -/
def State.expireDue (s : State) : State :=
  s.atEach allPos fun s p => if s.expiryDue p then s.expireAt p else s

/-- SILENCE_EXPIRY (R94); one that is not due is not taken (log entry 2). -/
def execSilenceExpiry (axle : Fin 10) (slot : Fin 4) (s : State) : Result :=
  if s.expiryDue ⟨axle, slot⟩ then .next (s.noteWheels (s.expireAt ⟨axle, slot⟩)).evaluate
  else .next s

end Sys2Proof.Machine
end

