-- ==== Sys2Proof/Machine/Telegrams.lean ====
section
/-! DEFINITION. Bits and bytes, the wheel telegram (R29, R179), its CRC-8 (R32) and the frame receivers' bit work (R31). -/

namespace Sys2Proof.Machine

/-! ## Bits, most significant first -/

/-- The bits of a word, most significant first (R31, R167). -/
def msbBits {w : Nat} (x : BitVec w) : List Bool := List.ofFn fun i : Fin w => x.getMsbD i.val

/-- The number that bits spell, most significant first. -/
def bitsToNat (bits : List Bool) : Nat := bits.foldl (fun n b => 2 * n + b.toNat) 0

/-- The number that a field of a bit sequence spells. -/
def bitField (bits : List Bool) (start len : Nat) : Nat := bitsToNat ((bits.drop start).take len)

/-! ## CRC-8 (R32) -/

/-- One data bit into the CRC-8 register: generator x^8 + x^5 + x^3 + x^2 + x + 1. -/
def crc8Step (reg : Byte) (bit : Bool) : Byte :=
  if (bit != reg.msb) = true then (reg <<< 1) ^^^ 0x2F else reg <<< 1

/-- The CRC-8 of data bits, the register preset to FFh. -/
def crc8 (bits : List Bool) : Byte := bits.foldl crc8Step 0xFF

/-! ## The telegram (R179) -/

/-- The kind codes (R30, R179). -/
def TelegramKind.code : TelegramKind → BitVec 2
  | .periodic => 0
  | .learn => 1
  | .alert => 2
  | .fault => 3

/-- The kind of a code. -/
def telegramKindOf (n : Nat) : TelegramKind :=
  match n with
  | 0 => .periodic
  | 1 => .learn
  | 2 => .alert
  | _ => .fault

/-- The fields of a 64-bit telegram (R179): every value is accepted as received (R29). -/
def decodeTelegram (bits : List Bool) : Telegram where
  id := BitVec.ofNat 32 (bitField bits 0 32)
  kind := telegramKindOf (bitField bits 32 2)
  sequence := BitVec.ofNat 4 (bitField bits 34 4)
  batteryLow := bitField bits 38 1 == 1
  pressureCode := BitVec.ofNat 9 (bitField bits 39 9)
  tempCode := BitVec.ofNat 8 (bitField bits 48 8)

/-- The 56 bits of a telegram before its check byte (R179). -/
def telegramBits (t : Telegram) : List Bool :=
  msbBits t.id ++ msbBits t.kind.code ++ msbBits t.sequence ++ [t.batteryLow] ++ msbBits t.pressureCode
    ++ msbBits t.tempCode

/-- The 64 bits a sensor sends for a telegram: bytes 0 to 6 and their CRC-8 (R179). -/
def encodeTelegram (t : Telegram) : List Bool := telegramBits t ++ msbBits (crc8 (telegramBits t))

/-- Whether byte 7 equals the CRC-8 of bytes 0 to 6 (R32). -/
def crcGood (bits : List Bool) : Bool := bitField bits 56 8 == (crc8 (bits.take 56)).toNat

/-! ## Frame receivers (R31) -/

/-- The sync word 6B94h (R31). -/
def syncWord : List Bool := msbBits (0x6B94 : BitVec 16)

/-- The last 16 bits of a sync history. -/
def last16 (history : List Bool) : List Bool := history.drop (history.length - 16)

/-- Bits recovered in HUNT, one at a time: the history after them and whether its last 16 bits came to equal the sync
word. The search ends at the sync. -/
def huntBits (history : List Bool) : List Bool → List Bool × Bool
  | [] => (history, false)
  | b :: rest =>
    let h := last16 (history ++ [b])
    if h = syncWord then (h, true) else huntBits h rest

/-- The number of bits of a telegram (R31). -/
def telegramLength : Nat := 64

/-- Bits recovered in COLLECT, one at a time: the bits assembled after them, and whether the 64th has been recovered.
The collection ends at the 64th. -/
def collectBits (sofar : List Bool) : List Bool → List Bool × Bool
  | [] => (sofar, false)
  | b :: rest =>
    let c := sofar ++ [b]
    if c.length = telegramLength then (c, true) else collectBits c rest

/-- An RSSI level in whole dBm, taken within its range (R33). -/
def clampRssi (level : Int) : Int := clampInt (-120) (-20) level

/-- A receiver that recovers bits and may detect the sync word (R31, first two rows). -/
def Receiver.sync (r : Receiver) (bits : List Bool) (level : Int) : Receiver :=
  match r with
  | .hunt history =>
    match huntBits history bits with
    | (_, true) => .collect (clampRssi level) []
    | (h, false) => .hunt h
  | .collect rssi sofar => .collect rssi sofar

/-- The receiver of a channel. -/
def State.receiver (s : State) : Channel → Receiver
  | .rx0 => s.rx0
  | .rx1 => s.rx1

/-- Write the receiver of a channel. -/
def State.setReceiver (s : State) (ch : Channel) (r : Receiver) : State :=
  match ch with
  | .rx0 => { s with rx0 := r }
  | .rx1 => { s with rx1 := r }

end Sys2Proof.Machine
end

