-- ==== Sys2Proof/Machine/Store.lean ====
section
/-! DEFINITION. The image store (R157 to R166): LOAD_COMPLETION, WRITE_BEGIN, WRITE_COMPLETION, STORE_COMMIT. -/

namespace Sys2Proof.Machine

/-! ## The check value (R157) -/

/-- One data bit into the CRC-16 register: generator x^16 + x^12 + x^5 + 1. -/
def crc16Step (reg : BitVec 16) (bit : Bool) : BitVec 16 :=
  if (bit != reg.msb) = true then (reg <<< 1) ^^^ 0x1021 else reg <<< 1

/-- The CRC-16 of bytes, the register preset to FFFFh, data bits most significant first. -/
def crc16 (bytes : List Byte) : BitVec 16 := (bytes.flatMap fun b => msbBits b).foldl crc16Step 0xFFFF

/-- The bytes of the image items, in the order of the table of R157. -/
def Image.bytesOut (i : Image) : List Byte :=
  Config.encodeAxles i.axles ++ Config.encodeSlots i.slots ++ Config.encodeProtect i.protect
    ++ Config.encodeProfiles i.profiles ++ Config.encodeConfig i.config ++ Config.encodeGeneration i.generation

/-- The check value of the image items (R157). -/
def checkValue (i : Image) : BitVec 16 := crc16 i.bytesOut

/-- The valid image of the non-volatile store: its content when the check value matches (R157, R159). -/
def Nonvolatile.validImage : Nonvolatile → Option Image
  | .content items check => if checkValue items = check then some items else none
  | .torn => none

/-! ## The working image -/

/-- The working image: the content of the image as the blocks hold it (R157, R162). -/
def State.workingImage (s : State) : Image where
  axles := tabulate fun a => (s.axle a).stored
  slots := s.slots
  protect := s.protect
  profiles := s.profiles
  config := s.config
  generation := s.generation

/-- The beginning of a write: the snapshot is taken and the state becomes WRITING (R162). -/
def State.beginWrite (s : State) : State := { s with store := { s.store with state := .writing s.workingImage } }

/-- Dirty (R164). -/
def State.dirty (s : State) : Bool :=
  match s.store.storedGeneration with
  | none => true
  | some g => g != s.generation

/-! ## The load (R8, R61, R98, R151, R160) -/

/-- An axle record as a load takes it: with any field outside its values it takes the defaults (R8, correction 1). -/
def StoredAxle.loaded (c : StoredAxle) : AxleRecord := c.decode.getD AxleRecord.default

/-- A stored protect range as a load takes it (R8, correction 2). -/
def loadedProtect : Option AxleRange → Option AxleRange
  | some r => if r.lo ≤ r.hi ∧ r.hi ≤ 9 then some r else none
  | none => none

/-- The content of a slot after corrections 3 and 4 of R8: a valid ID in a valid slot. -/
def Image.placedId (i : Image) (p : Pos) : Option SensorId :=
  match i.slots[p.idx] with
  | some id => if validId id && (i.axles[p.axle]).loaded.validSlot p.slot then some id else none
  | none => none

/-- The content of a slot after correction 5 of R8: an ID held by a slot earlier in slot order is discarded. -/
def Image.loadedId (i : Image) (p : Pos) : Option SensorId :=
  match i.placedId p with
  | some id => if allPos.any (fun q => decide (q.idx < p.idx) && i.placedId q == some id) then none else some id
  | none => none

/-- The stored content taken with its corrections, and the generation of the image (R8, R61, R151, R160). -/
def State.takeImage (s : State) (i : Image) : State :=
  { s with
    axles := tabulate fun a => (i.axles[a]).loaded
    slots := tabulate fun k => i.loadedId (posOfIdx k)
    protect := loadedProtect i.protect
    profiles := tabulate fun f => (i.profiles[f]).loaded
    config := i.config.clamped
    generation := i.generation
    store := { s.store with state := .idle, storedGeneration := some i.generation, imageValid := true } }

/-- The defaults kept with an image that is not valid (R8, R61, R151, R160). -/
def State.takeDefaults (s : State) : State :=
  { s with
    axles := Vector.replicate 10 AxleRecord.default
    slots := Vector.replicate 40 none
    protect := none
    profiles := Vector.replicate 4 Profile.default
    config := ConfigItems.default
    generation := 0
    store := { s.store with state := .idle, storedGeneration := none, imageValid := false } }

/-- The records started from the map the load has produced (R98), attached where the trailer is already PRESENT (R148). -/
def State.startRecords (s : State) : State :=
  { s with
    wheels := tabulate fun k =>
      match s.slots[k] with
      | none => .empty
      | some _ => .fresh (startState (s.detachedSlot (posOfIdx k))) s.uptime }

/-- The completion of the load (R160). -/
def State.completeLoad (s : State) : State :=
  let s := match s.nonvolatile.validImage with
    | some i => s.takeImage i
    | none => s.takeDefaults
  s.startRecords.firstEvaluation.setFlagBoth .store

/-- LOAD_COMPLETION (R160); outside LOADING there is no load to complete (log entry 2). -/
def execLoadCompletion (s : State) : Result := if s.loading then .next s.completeLoad else .next s

/-! ## Writes -/

/-- WRITE_BEGIN (R162): a pending write begins with supply NORMAL. STORE_COMMIT and the supply watch's change to NORMAL
begin writes in their own events (log entry 9). -/
def execWriteBegin (s : State) : Result :=
  match s.store.state, s.supply.state with
  | .pending, .normal => .next s.beginWrite
  | _, _ => .next s

/-- The store after a completed write (R163). -/
def State.completeWrite (s : State) (snapshot : Image) (verified : Bool) : State :=
  (if verified then
    { s with
      store := ⟨.idle, some snapshot.generation, true, .ok⟩
      nonvolatile := .content snapshot (checkValue snapshot) }
  else
    { s with
      store := ⟨.idle, none, false, .fault⟩
      nonvolatile := .torn }).setFlagBoth .store

/-- WRITE_COMPLETION (R163); outside WRITING there is no write to complete (log entry 2). -/
def execWriteCompletion (verified : Bool) (s : State) : Result :=
  match s.store.state with
  | .writing snapshot => .next (s.completeWrite snapshot verified)
  | _ => .next s

/-- The code of a store state (R178). -/
def StoreState.code : StoreState → Nat
  | .loading => 0
  | .idle => 1
  | .pending => 2
  | .writing _ => 3

/-- STORE_COMMIT (R161). -/
def execStoreCommit (port : PortId) (s : State) : Result :=
  .next (s.transact port fun s =>
    match s.store.state, s.supply.state with
    | .idle, .normal => s.beginWrite.answer port .accepted [3]
    | .idle, .low => ({ s with store := { s.store with state := .pending } }).answer port .accepted [2]
    | _, _ => s.refuse port .busy)

end Sys2Proof.Machine
end

