-- ==== Sys2Proof/Machine/Layouts.lean ====
section
/-! DEFINITION. The byte layouts of replies (R170, R178, R180 to R187). -/

namespace Sys2Proof.Machine

/-! ## Words on a port, most significant byte first (R178) -/

/-- Two bytes. -/
def bytes2 (x : Half) : List Byte := [x.extractLsb' 8 8, x.extractLsb' 0 8]

/-- Four bytes. -/
def bytes4 (x : BitVec 32) : List Byte := bytes2 (x.extractLsb' 16 16) ++ bytes2 (x.extractLsb' 0 16)

/-- One byte of a number. -/
def byte (n : Nat) : Byte := BitVec.ofNat 8 n

/-- Two bytes of a signed number, in two's complement. -/
def signed2 (x : Int) : List Byte := bytes2 (BitVec.ofInt 16 x)

/-- One signed byte. -/
def signed1 (x : Int) : Byte := BitVec.ofInt 8 x

/-! ## Codes -/

/-- The status codes (R170). -/
def Status.code : Status → Byte
  | .ok => 0x00
  | .accepted => 0x01
  | .busy => 0x02
  | .stale => 0x03
  | .underProtection => 0x04
  | .range => 0x05
  | .inUse => 0x06
  | .badId => 0x07
  | .badProfile => 0x08
  | .noSession => 0x09
  | .noTrailer => 0x0A
  | .unknown => 0x0B
  | .length => 0x0C
  | .frame => 0x0D

/-- The codes of the conditions (R178). -/
def Condition.code : Condition → Nat
  | .lowWarn => 0
  | .lowAlarm => 1
  | .highWarn => 2
  | .hotWarn => 3
  | .hotAlarm => 4
  | .leak => 5
  | .imbalance => 6
  | .silent => 7
  | .sensorFault => 8
  | .batteryLow => 9

/-- The codes of a wheel state (R178). -/
def WheelState.code : WheelState → Nat
  | .empty => 0
  | .awaiting => 1
  | .live => 2
  | .silent => 3
  | .detached => 4

/-- The codes of a pressure band or pending floor (R178). -/
def Band.code : Band → Nat
  | .ok => 0
  | .warnLow => 1
  | .alarmLow => 2
  | .highWarn => 3

/-- The codes of a temperature band (R178). -/
def TempBand.code : TempBand → Nat
  | .ok => 0
  | .hotWarn => 1
  | .hotAlarm => 2

/-- The codes of a pending direction (R178). -/
def directionCode : Option Side → Nat
  | none => 0
  | some .low => 1
  | some .high => 2

/-- The codes of a reason cause (R178). -/
def Cause.code : Cause → Nat
  | .noCriticalAxle => 0
  | .noSensor => 1
  | .notLive => 2
  | .lowAlarm => 3
  | .leak => 4
  | .imbalance => 5
  | .sideBalance => 6

/-- The codes of the vehicle values (R178). -/
def LoadState.code : LoadState → Nat
  | .unladen => 0
  | .laden => 1

/-- R178. -/
def BodyState.code : BodyState → Nat
  | .down => 0
  | .raising => 1
  | .raised => 2
  | .lowering => 3

/-- R178. -/
def TrailerState.code : TrailerState → Nat
  | .absent => 0
  | .present => 1

/-- R178. -/
def MotionState.code : MotionState → Nat
  | .stopped => 0
  | .moving => 1

/-- The codes of a writer (R178). -/
def writerCode : Option PortId → Nat
  | none => 0
  | some .a => 1
  | some .b => 2

/-- The codes of a learn outcome (R178). -/
def LearnOutcome.code : LearnOutcome → Nat
  | .none => 0
  | .completed => 1
  | .finishedEarly => 2
  | .timedOut => 3
  | .aborted => 4
  | .cancelled => 5

/-- The codes of a channel (R178). -/
def channelCode : Channel → Nat
  | .rx0 => 0
  | .rx1 => 1

/-- The codes of a write outcome (R178). -/
def WriteOutcome.code : WriteOutcome → Nat
  | .none => 0
  | .ok => 1
  | .fault => 2

/-- The codes of the supply state (R178). -/
def SupplyState.code : SupplyState → Nat
  | .normal => 0
  | .low => 1

/-- The code of a port in READ_ID (R176). -/
def portCode : PortId → Nat
  | .a => 0
  | .b => 1

/-! ## The reply frame and what a host clocks out (R167, R180) -/

/-- The bytes of a reply frame (R180). -/
def Reply.bytesOut (r : Reply) : List Byte :=
  [r.status.code, byte r.bytes.length] ++ bytes2 r.generation ++ r.bytes

/-- The bytes shifted out on a port during a transaction of k whole bytes: the reply slot, then 00h for every further
byte (R167). -/
def Port.shiftOut (x : Port) (k : Nat) : List Byte :=
  (List.range k).map fun i => (x.reply.bytesOut)[i]?.getD 0

/-- The level of SDO_A or SDO_B, true for high, after a number of falling clock edges of the transaction under way:
high-impedance (none) while chip-select is high, else the bits shifted out, most significant bit of each byte first (R167,
R177). -/
def State.sdoPin (s : State) (p : PortId) (edges : Nat) : Option Bool :=
  if (s.port p).selected then
    some ((((s.port p).shiftOut (edges / 8 + 1))[edges / 8]?.getD 0).getMsbD (edges % 8))
  else none

/-! ## Wheel record (R181) -/

/-- The active conditions as bits 9 to 0 (R178, R181). -/
def Conditions.word (c : Conditions) : Nat :=
  (Condition.all.map fun k => if c.has k then 2 ^ k.code else 0).sum

/-- The last leak rate, saturated; 8000h absent (R181). -/
def rateBytes : Option Int → List Byte
  | none => bytes2 0x8000
  | some r => signed2 (clampInt (-32767) 32767 r)

/-- An RSSI byte, signed dBm; 00h absent (R181). -/
def rssiByte : Option Int → Byte
  | none => 0
  | some v => signed1 v

/-- The 16 bytes of a wheel record (R181). The codes and the sequence of a record that holds none are free values
(log entry 16), numbered by the READ_WHEELS and the position. -/
def wheelBytes (number : Nat) (p : Pos) (r : WheelRecord) : List Byte :=
  let pressure := r.pressureCode.getD (Config.absentPressureBits number p.idx.val)
  let temperature := r.tempCode.getD (Config.absentTempBits number p.idx.val)
  let sequence := r.lastSequence.getD (Config.absentSequenceBits number p.idx.val)
  [byte (r.state.code + 8 * r.stale.toNat + 16 * r.overRange.toNat + 32 * r.batteryLow.toNat
      + 64 * r.pressureCode.isSome.toNat + 128 * (pressure.getLsbD 8).toNat),
   byte (r.band.code + 4 * r.tempBand.code + 16 * r.pending.count + 64 * r.leakCount)]
  ++ (match r.pCold with
      | some c => signed2 c
      | none => bytes2 0xFFFF)
  ++ bytes2 (BitVec.ofNat 16 (r.conditions.word + 1024 * sequence.toNat + 16384 * r.lastSequence.isSome.toNat))
  ++ [pressure.setWidth 8, temperature,
      (match r.heldTemp with
        | some t => signed1 (t + 50)
        | none => 0xFF),
      r.faultCode.getD 0, rssiByte r.rssi0, rssiByte r.rssi1]
  ++ rateBytes r.leakRate
  ++ [byte (16 * p.axle.val + p.slot.val),
      byte (directionCode r.pending.direction + 4 * (r.pending.floor.elim 0 Band.code))]

/-! ## Axle table (R182) -/

/-- The protect range, bytes 0 to 2 (R182). -/
def protectBytes : Option AxleRange → List Byte
  | none => [0, 0, 0]
  | some r => [1, byte r.lo, byte r.hi]

/-- The 18 bytes of an axle record (R182). -/
def State.axleBytes (s : State) (a : Fin 10) : List Byte :=
  let r := s.axle a
  [byte a.val,
   byte (r.present.toNat + 2 * r.unit.code + 4 * r.kind.code + 8 * r.tipCritical.toNat + 16 * r.liftCapable.toNat
      + 32 * r.profile.val)]
  ++ (axlePositions a).flatMap fun p => bytes4 ((s.slotId p).getD 0)

/-! ## Alert list (R183) -/

/-- The 8 bytes of an entry (R183). DESIGN CHOICE (log entry 30): bits 2 to 7 of byte 3, which R183 does not name, are 0. -/
def AlertEntry.bytesOut (e : AlertEntry) : List Byte :=
  [byte e.pos.axle.val, byte e.pos.slot.val, byte e.kind.code, byte (e.unackA.toNat + 2 * e.unackB.toNat)]
  ++ bytes4 e.raisedAt

/-- The READ_ALERTS reply (R113, R183). -/
def AlertBlock.bytesFrom (b : AlertBlock) (start : Nat) : List Byte :=
  [byte b.entries.length, byte b.marker.toNat] ++ bytes2 (BitVec.ofNat 16 b.overflow.length)
  ++ ((b.entries.drop start).take 16).flatMap AlertEntry.bytesOut

/-! ## Verdict record (R184) -/

/-- The 3 bytes of a reason (R184). -/
def Reason.bytesOut (r : Reason) : List Byte :=
  [(match r.axle with
    | some a => byte a.val
    | none => 0xFF),
   (match r.slot with
    | some t => byte t.val
    | none => 4),
   byte r.cause.code]

/-- The READ_PERMIT reply (R125, R184). DESIGN CHOICE (log entry 30): bits 4 to 7 of byte 0, which R184 does not name,
are 0. -/
def Permit.bytesOut (x : Permit) : List Byte :=
  [byte ((x.verdict == .granted).toNat + 2 * (x.basis == .evaluated).toNat + 4 * x.latched.toNat + 8 * x.more.toNat),
   byte x.reasons.length]
  ++ x.reasons.flatMap Reason.bytesOut

/-! ## Learning session (R185) -/

/-- The time remaining on the position timer in tenths of a second, FFFFh while supply is LOW (R143, R185). -/
def State.timeRemaining (s : State) (l : Session) : Half :=
  match s.supply.state with
  | .low => 0xFFFF
  | .normal => BitVec.ofNat 16 (10 * s.config.learnTimeout - (elapsed s.uptime l.timerStart : Int)).toNat

/-- The position at the cursor and its expected channel, bytes 6 to 8 (R185). -/
def State.cursorBytes (s : State) (l : Session) : List Byte :=
  match l.here with
  | some p => [byte p.axle.val, byte p.slot.val, byte (channelCode (s.expectedChannel p))]
  | none => [0, 0, 0]

/-- The 6 bytes of a staging entry (R185). -/
def stagingBytes (e : Pos × Option SensorId) : List Byte :=
  [byte e.1.axle.val, byte e.1.slot.val] ++ bytes4 (e.2.getD 0)

/-- The LEARN_STATUS reply (R143, R185). -/
def State.learnBytes (s : State) : List Byte :=
  match s.learn.session with
  | none => [0, byte s.learn.lastOutcome.code]
  | some l =>
    [1, byte s.learn.lastOutcome.code, byte l.range.lo, byte l.range.hi, byte l.positions.length, byte l.cursor]
    ++ s.cursorBytes l ++ bytes2 (s.timeRemaining l) ++ l.staging.flatMap stagingBytes

/-! ## Store status (R186) -/

/-- The STORE_STATUS reply (R164, R186). DESIGN CHOICE (log entry 30): bits 3 to 7 of byte 2, which R186 does not name,
are 0. -/
def State.storeBytes (s : State) : List Byte :=
  [byte s.store.state.code, byte s.store.lastWrite.code]
  ++ if s.loading then []
    else
      [byte (s.store.imageValid.toNat + 2 * s.store.storedGeneration.isSome.toNat + 4 * s.dirty.toNat)]
      ++ bytes2 (s.store.storedGeneration.getD 0)

/-! ## Vehicle, configuration and profiles (R187) -/

/-- The READ_VEHICLE reply (R150, R187). -/
def State.vehicleBytes (s : State) : List Byte :=
  let v := s.vehicle
  [byte v.load.code, byte (writerCode v.loadWriter), byte v.body.code, byte (writerCode v.bodyWriter),
   byte v.trailer.code, byte (writerCode v.trailerWriter), byte v.motion.code, byte (writerCode v.motionWriter)]
  ++ bytes2 (v.lifted.setWidth 16) ++ [byte (writerCode v.liftedWriter)]
  ++ signed2 v.ambient ++ [byte (writerCode v.ambientWriter)]
  ++ [byte s.supply.state.code]
  ++ (match s.supply.lastSample with
      | some x => bytes2 (BitVec.ofNat 16 x)
      | none => bytes2 0xFFFF)
  ++ bytes4 s.uptime

/-- The READ_CONFIG reply (R152, R187). -/
def ConfigItems.bytesOut (c : ConfigItems) : List Byte :=
  [ConfigItem.movingLimit, .stoppedLimit, .referenceTemp, .pattern, .mask, .rssiFloor, .learnTimeout,
    .supplyThreshold].flatMap fun i => bytes4 (c.value i)

/-- The pointer of a port: FFh FFh when cleared (R178). -/
def pointerBytes : Option Staging → List Byte
  | none => [0xFF, 0xFF]
  | some g => [byte g.profile.val, byte g.field.val]

/-- The eleven fields of a profile (R187). -/
def Profile.bytesOut (p : Profile) : List Byte := (List.finRange 11).flatMap fun f => signed2 p[f]

/-- The failed checks of a commit (R178, R187). DESIGN CHOICE (log entry 30): bits 3 to 7, which R178 does not name, are 0
also where a check fails. -/
def Profile.failedBits (p : Profile) : Byte :=
  byte (p.alarmOrderFails.toNat + 2 * p.hotOrderFails.toNat + 4 * p.hysteresisOrderFails.toNat)

end Sys2Proof.Machine
end

