-- ==== Sys2Proof/Machine/Frames.lean ====
section
/-! DEFINITION. Command frames: how a transaction is judged (R168), the command code table (R171) and the parameter
layouts (R178, R180, R187), with the frame a host sends for each command. -/

namespace Sys2Proof.Machine

/-- How a port judges a transaction (R168). -/
inductive Transaction where
  /-- No clock cycle: nothing is taken. -/
  | nothing
  /-- The frame is discarded with FRAME. -/
  | malformed
  /-- A code not in the command code table: UNKNOWN. -/
  | unknownCode
  /-- A parameter length that is not the code's: LENGTH. -/
  | wrongLength
  /-- A SET_VEHICLE whose item code names no item: RANGE (R145). No row of the table stands for it (log entry 12). -/
  | unknownItem
  /-- A well-formed command. -/
  | command (i : Instr)
  deriving DecidableEq, Repr

/-- Whole bytes of a bit sequence, most significant bit first (R167). -/
def bytesOfBits : List Bool → List Byte
  | b7 :: b6 :: b5 :: b4 :: b3 :: b2 :: b1 :: b0 :: rest =>
    BitVec.ofNat 8 (bitsToNat [b7, b6, b5, b4, b3, b2, b1, b0]) :: bytesOfBits rest
  | _ => []

/-- The bits of bytes, in the order they are clocked (R167). -/
def bitsOfBytes (bytes : List Byte) : List Bool := bytes.flatMap fun b => msbBits b

/-- A two-byte parameter. -/
def half (h l : Byte) : Half := h ++ l

/-- A four-byte parameter. -/
def word4 (x3 x2 x1 x0 : Byte) : BitVec 32 := half x3 x2 ++ half x1 x0

/-- The parameter lengths by command code, 00h to 1Ch (R171). -/
def paramLengths : List Nat :=
  [0, 0, 0, 2, 0, 4, 2, 1, 3, 0, 3, 0, 5, 0, 8, 4, 9, 9, 5, 2, 2, 1, 4, 0, 0, 0, 0, 0, 0]

/-- SET_VEHICLE by its item code (R178). -/
def vehicleCommand (port : PortId) (item : Byte) (v : Half) : Transaction :=
  match item.toNat with
  | 0 => .command (.setVehicleLoad port v)
  | 1 => .command (.setVehicleBody port v)
  | 2 => .command (.setVehicleTrailer port v)
  | 3 => .command (.setVehicleMotion port v)
  | 4 => .command (.setVehicleLiftedSet port v)
  | 5 => .command (.setVehicleAmbient port v)
  | _ => .unknownItem

/-- The command of a code and its parameter bytes (R171, R178, R187). -/
def commandOf (port : PortId) (code : Nat) (ps : List Byte) : Transaction :=
  match code, ps with
  | 0x00, [] => .command (.nop port)
  | 0x01, [] => .command (.readId port)
  | 0x02, [] => .command (.getEvents port)
  | 0x03, [m1, m0] => .command (.setEventMask port (half m1 m0))
  | 0x04, [] => .command (.portReset port)
  | 0x05, [a, t, na, nt] => .command (.readWheels port a t na nt)
  | 0x06, [a, na] => .command (.readAxles port a na)
  | 0x07, [i] => .command (.readAlerts port i)
  | 0x08, [a, t, k] => .command (.ackAlert port a t k)
  | 0x09, [] => .command (.readPermit port)
  | 0x0A, [item, v1, v0] => vehicleCommand port item (half v1 v0)
  | 0x0B, [] => .command (.readVehicle port)
  | 0x0C, [item, v3, v2, v1, v0] => .command (.setConfig port item (word4 v3 v2 v1 v0))
  | 0x0D, [] => .command (.readConfig port)
  | 0x0E, [g1, g0, a, t, i3, i2, i1, i0] => .command (.mapAssign port (half g1 g0) a t (word4 i3 i2 i1 i0))
  | 0x0F, [g1, g0, a, t] => .command (.mapRemove port (half g1 g0) a t)
  | 0x10, [g1, g0, sa, st, na, nt, da, dt, m] => .command (.mapMove port (half g1 g0) sa st na nt da dt m)
  | 0x11, [g1, g0, a, pr, u, k, pf, tc, lc] => .command (.mapSetAxle port (half g1 g0) a pr u k pf tc lc)
  | 0x12, [g1, g0, act, lo, hi] => .command (.mapProtect port (half g1 g0) act lo hi)
  | 0x13, [p, f] => .command (.profileSelect port p f)
  | 0x14, [v1, v0] => .command (.profileWrite port (half v1 v0))
  | 0x15, [p] => .command (.profileRead port p)
  | 0x16, [g1, g0, lo, hi] => .command (.learnStart port (half g1 g0) lo hi)
  | 0x17, [] => .command (.learnSkip port)
  | 0x18, [] => .command (.learnFinish port)
  | 0x19, [] => .command (.learnAbort port)
  | 0x1A, [] => .command (.learnStatus port)
  | 0x1B, [] => .command (.storeCommit port)
  | 0x1C, [] => .command (.storeStatus port)
  | _, _ => .wrongLength

/-- A frame of whole bytes judged in the order of R168, steps 2 to 5; bytes beyond 2 + n are ignored. -/
def judgeBytes (port : PortId) : List Byte → Transaction
  | code :: n :: rest =>
    if rest.length < n.toNat then .malformed
    else
      match paramLengths[code.toNat]? with
      | none => .unknownCode
      | some k => if n.toNat = k then commandOf port code.toNat (rest.take k) else .wrongLength
  | _ => .malformed

/-- A transaction of bits judged as R168 gives. -/
def judgeFrame (port : PortId) (sdi : List Bool) : Transaction :=
  if sdi.length = 0 then .nothing
  else if sdi.length % 8 = 0 then judgeBytes port (bytesOfBits sdi)
  else .malformed

/-- A command frame: code, parameter length, parameters (R180). -/
def frameOf (port : PortId) (code : Byte) (ps : List Byte) : Option (PortId × List Byte) :=
  some (port, code :: byte ps.length :: ps)

/-- The port and the frame a host sends for a port command; the other events have no frame (R171, R178, R187). -/
def encodeFrame : Instr → Option (PortId × List Byte)
  | .nop p => frameOf p 0x00 []
  | .readId p => frameOf p 0x01 []
  | .getEvents p => frameOf p 0x02 []
  | .setEventMask p m => frameOf p 0x03 (bytes2 m)
  | .portReset p => frameOf p 0x04 []
  | .readWheels p a t na nt => frameOf p 0x05 [a, t, na, nt]
  | .readAxles p a na => frameOf p 0x06 [a, na]
  | .readAlerts p i => frameOf p 0x07 [i]
  | .ackAlert p a t k => frameOf p 0x08 [a, t, k]
  | .readPermit p => frameOf p 0x09 []
  | .setVehicleLoad p v => frameOf p 0x0A (0 :: bytes2 v)
  | .setVehicleBody p v => frameOf p 0x0A (1 :: bytes2 v)
  | .setVehicleTrailer p v => frameOf p 0x0A (2 :: bytes2 v)
  | .setVehicleMotion p v => frameOf p 0x0A (3 :: bytes2 v)
  | .setVehicleLiftedSet p v => frameOf p 0x0A (4 :: bytes2 v)
  | .setVehicleAmbient p v => frameOf p 0x0A (5 :: bytes2 v)
  | .readVehicle p => frameOf p 0x0B []
  | .setConfig p item v => frameOf p 0x0C (item :: bytes4 v)
  | .readConfig p => frameOf p 0x0D []
  | .mapAssign p g a t id => frameOf p 0x0E (bytes2 g ++ [a, t] ++ bytes4 id)
  | .mapRemove p g a t => frameOf p 0x0F (bytes2 g ++ [a, t])
  | .mapMove p g sa st na nt da dt m => frameOf p 0x10 (bytes2 g ++ [sa, st, na, nt, da, dt, m])
  | .mapSetAxle p g a pr u k pf tc lc => frameOf p 0x11 (bytes2 g ++ [a, pr, u, k, pf, tc, lc])
  | .mapProtect p g act lo hi => frameOf p 0x12 (bytes2 g ++ [act, lo, hi])
  | .profileSelect p pf f => frameOf p 0x13 [pf, f]
  | .profileWrite p v => frameOf p 0x14 (bytes2 v)
  | .profileRead p pf => frameOf p 0x15 [pf]
  | .learnStart p g lo hi => frameOf p 0x16 (bytes2 g ++ [lo, hi])
  | .learnSkip p => frameOf p 0x17 []
  | .learnFinish p => frameOf p 0x18 []
  | .learnAbort p => frameOf p 0x19 []
  | .learnStatus p => frameOf p 0x1A []
  | .storeCommit p => frameOf p 0x1B []
  | .storeStatus p => frameOf p 0x1C []
  | .powerUp => none
  | .resetN => none
  | .uptimeTick => none
  | .loadCompletion => none
  | .vsenseSample _ => none
  | .telegramCompletion _ _ => none
  | .entryTaken => none
  | .silenceExpiry _ _ => none
  | .positionTimerExpiry => none
  | .writeBegin => none
  | .writeCompletion _ => none
  | .malformedCommandFrame _ _ => none
  | .syncDetected _ _ _ => none
  | .lineCodingViolation _ => none
  | .powerLoss => none

end Sys2Proof.Machine
end

