-- ==== Sys2Proof/Machine/Reads.lean ====
section
/-! DEFINITION. Reading records, and acknowledgement: READ_WHEELS, READ_AXLES, READ_ALERTS, ACK_ALERT, READ_PERMIT,
LEARN_STATUS, STORE_STATUS (R28, R99, R110, R113, R125, R143, R164). -/

namespace Sys2Proof.Machine

/-- The most records one READ_WHEELS reply carries (R171). -/
def wheelsPerReply : Nat := 15

/-- The positions of a rectangle clamped to the grid, in the order of R99. -/
def rectangle (firstAxle firstSlot axleCount slotCount : Nat) : List Pos :=
  allPos.filter fun p =>
    decide (firstAxle ≤ p.axle.val ∧ p.axle.val ≤ firstAxle + axleCount
      ∧ firstSlot ≤ p.slot.val ∧ p.slot.val ≤ firstSlot + slotCount)

/-- The READ_WHEELS reply bytes for positions (R99, R181). -/
def State.wheelsBytes (s : State) (ps : List Pos) : List Byte :=
  ps.flatMap fun p => wheelBytes s.freeIndex p (s.wheel p)

/-- READ_WHEELS (R99). The counter of free values advances, so that two replies need not agree on them (log entry 16). -/
def execReadWheels (port : PortId) (firstAxle firstSlot axleCount slotCount : Byte) (s : State) : Result :=
  .next (s.unlessLoading port fun s =>
    if firstAxle.toNat ≤ 9 ∧ firstSlot.toNat ≤ 3 then
      let ps := (rectangle firstAxle.toNat firstSlot.toNat axleCount.toNat slotCount.toNat).take wheelsPerReply
      ({ s with freeIndex := s.freeIndex + 1 }).answer port .ok (s.wheelsBytes ps)
    else s.refuse port .range)

/-- READ_AXLES (R28). -/
def execReadAxles (port : PortId) (firstAxle axleCount : Byte) (s : State) : Result :=
  .next (s.unlessLoading port fun s =>
    if firstAxle.toNat ≤ 9 then
      let axles := (List.finRange 10).filter fun a =>
        decide (firstAxle.toNat ≤ a.val ∧ a.val ≤ firstAxle.toNat + axleCount.toNat)
      s.answer port .ok (protectBytes s.protect ++ axles.flatMap s.axleBytes)
    else s.refuse port .range)

/-- READ_ALERTS (R113). -/
def execReadAlerts (port : PortId) (start : Byte) (s : State) : Result :=
  .next (s.unlessLoading port fun s =>
    if start.toNat ≤ 63 then s.answer port .ok (s.alerts.bytesFrom start.toNat)
    else s.refuse port .range)

/-- A port's unacknowledged mark on an entry (R100). -/
def AlertEntry.unack (e : AlertEntry) : PortId → Bool
  | .a => e.unackA
  | .b => e.unackB

/-- An entry with a port's unacknowledged mark written. -/
def AlertEntry.setUnack (e : AlertEntry) (port : PortId) (mark : Bool) : AlertEntry :=
  match port with
  | .a => { e with unackA := mark }
  | .b => { e with unackB := mark }

/-- An entry matches an ACK_ALERT (R110). -/
def AlertEntry.acked (e : AlertEntry) (p : Pos) (k : AckKind) : Bool := e.pos == p && k.covers e.kind

/-- The marks a port's ACK_ALERT clears (R110). -/
def AlertBlock.acknowledge (b : AlertBlock) (port : PortId) (p : Pos) (k : AckKind) : AlertBlock :=
  { b with entries := b.entries.map fun e => if e.acked p k then e.setUnack port false else e }

/-- How many marks a port's ACK_ALERT clears (R110). -/
def AlertBlock.ackCount (b : AlertBlock) (port : PortId) (p : Pos) (k : AckKind) : Nat :=
  (b.entries.filter fun e => e.acked p k && e.unack port).length

/-- ACK_ALERT (R110). -/
def execAckAlert (port : PortId) (axle slot kind : Byte) (s : State) : Result :=
  .next (s.unlessLoading port fun s =>
    match posOf axle slot, ackKindOf kind.toNat with
    | some p, some k =>
      ({ s with alerts := s.alerts.acknowledge port p k }).answer port .ok [byte (s.alerts.ackCount port p k)]
    | _, _ => s.refuse port .range)

/-- READ_PERMIT (R125). -/
def execReadPermit (port : PortId) (s : State) : Result :=
  .next (s.unlessLoading port fun s => s.answer port .ok s.permit.bytesOut)

/-- LEARN_STATUS (R143). -/
def execLearnStatus (port : PortId) (s : State) : Result :=
  .next (s.unlessLoading port fun s => s.answer port .ok s.learnBytes)

/-- STORE_STATUS (R164): taken in every store state. -/
def execStoreStatus (port : PortId) (s : State) : Result :=
  .next (s.transact port fun s => s.answer port .ok s.storeBytes)

end Sys2Proof.Machine
end

