-- ==== Sys2Proof/Machine/Ports.lean ====
section
/-! DEFINITION. The port interfaces (R167 to R176): MALFORMED_COMMAND_FRAME, NOP, READ_ID, GET_EVENTS, SET_EVENT_MASK,
PORT_RESET. -/

namespace Sys2Proof.Machine

/-- The reply that a transaction which reaches no block is answered with, if any (R168, R145). -/
def Transaction.status : Transaction → Option Status
  | .nothing => none
  | .malformed => some .frame
  | .unknownCode => some .unknown
  | .wrongLength => some .length
  | .unknownItem => some .range
  | .command _ => none

/-- MALFORMED_COMMAND_FRAME (R168): only the reply slot changes. A transaction without a clock cycle takes nothing, and
one that holds a well-formed command is that command's row, not this one (log entry 12). -/
def execMalformedCommandFrame (port : PortId) (sdi : List Bool) (s : State) : Result :=
  .next (s.transact port fun s =>
    match (judgeFrame port sdi).status with
    | some st => s.refuse port st
    | none => s)

/-- NOP (R176). -/
def execNop (port : PortId) (s : State) : Result :=
  .next (s.transact port fun s => s.answer port .ok [])

/-- READ_ID (R176). -/
def execReadId (port : PortId) (s : State) : Result :=
  .next (s.transact port fun s => s.answer port .ok [0x04, 0x18, 0x01, byte (portCode port), 10, 40, 32, 64])

/-- GET_EVENTS (R173): the flags reported and cleared. -/
def execGetEvents (port : PortId) (s : State) : Result :=
  .next (s.transact port fun s =>
    (s.setPort port { s.port port with flags := 0 }).answer port .ok (bytes2 ((s.port port).flags.setWidth 16)))

/-- SET_EVENT_MASK (R174): bits 11 to 15 are ignored. -/
def execSetEventMask (port : PortId) (mask : Half) (s : State) : Result :=
  .next (s.transact port fun s =>
    (s.setPort port { s.port port with mask := mask.setWidth 11 }).answer port .ok
      (bytes2 ((mask.setWidth 11).setWidth 16)))

/-- A port's unacknowledged mark set on every entry (R112). -/
def AlertBlock.unackAll (b : AlertBlock) (port : PortId) : AlertBlock :=
  { b with entries := b.entries.map fun e => e.setUnack port true }

/-- The flags of a port after its PORT_RESET (R112, R175). -/
def resetFlags (b : AlertBlock) : BitVec 11 :=
  if b.entries.isEmpty then EventFlag.restarted.bit else EventFlag.restarted.bit ||| EventFlag.alertRaised.bit

/-- PORT_RESET (R175). -/
def execPortReset (port : PortId) (s : State) : Result :=
  .next (s.unlessLoading port fun s =>
    (({ s with alerts := s.alerts.unackAll port }).setPort port
      { s.port port with flags := resetFlags s.alerts, mask := BitVec.allOnes 11, staging := none }).answer port .ok [])

end Sys2Proof.Machine
end

