-- ==== Sys2Proof/Machine/Profiles.lean ====
section
/-! DEFINITION. Profile staging and commit (R60 to R71): PROFILE_SELECT, PROFILE_WRITE, PROFILE_READ. -/

namespace Sys2Proof.Machine

/-- Write a port's pointer and staging copy together (R62). -/
def State.setStaging (s : State) (port : PortId) (g : Option Staging) : State :=
  s.setPort port { s.port port with staging := g }

/-- The pointer moved to a field of a profile and the copy loaded from the committed profile (R63, R66). -/
def State.loadStaging (s : State) (port : PortId) (profile : Fin 4) (field : Fin 11) : State :=
  s.setStaging port (some ⟨profile, field, s.profiles[profile]⟩)

/-- PROFILE_SELECT (R63). -/
def execProfileSelect (port : PortId) (profile field : Byte) (s : State) : Result :=
  .next (s.unlessLoading port fun s =>
    match profileOf profile.toNat, fieldOf field.toNat with
    | some p, some f =>
      (s.loadStaging port p f).answer port .ok ([byte p.val, byte f.val] ++ signed2 (s.profiles[p])[f])
    | _, _ => s.refuse port .range)

/-- A taken commit (R66, R68): the profile replaced, the generation, IMAGE, the target change of the present axles that
name it, WHEEL if a record changed, and one evaluation. -/
def State.commitProfile (s : State) (profile : Fin 4) (copy : Profile) : State :=
  let s := ({ s with
    profiles := s.profiles.set profile.val copy profile.isLt
    generation := s.generation + 1 }).setFlagBoth .image
  (s.noteWheels (s.targetChange fun a => (s.axle a).profile == profile)).evaluate

/-- The next field of a profile (R64). -/
def nextField (f : Fin 11) : Fin 11 := ⟨(f.val + 1) % 11, by omega⟩

/-- The next profile: 0, 1, 2, 3, 0 (R66). -/
def nextProfile (p : Fin 4) : Fin 4 := ⟨(p.val + 1) % 4, by omega⟩

/-- The reply of PROFILE_WRITE: the value as clamped, the pointer after, the failed checks (R187). -/
def writeReply (v : Int) (pointer : Option Staging) (failed : Byte) : List Byte :=
  signed2 v ++ pointerBytes pointer ++ [failed]

/-- PROFILE_WRITE at a staged field (R64 to R67). -/
def State.writeStaged (s : State) (port : PortId) (g : Staging) (value : Int) : State :=
  let v := clampField g.field value
  let copy := g.copy.setField g.field v
  if g.field ≠ 10 then
    let g' : Staging := ⟨g.profile, nextField g.field, copy⟩
    (s.setStaging port (some g')).answer port .ok (writeReply v (some g') 0)
  else if copy.passesChecks then
    let s := (s.commitProfile g.profile copy).loadStaging port (nextProfile g.profile) 0
    s.answer port .ok (writeReply v (s.port port).staging 0)
  else
    let g' : Staging := ⟨g.profile, g.field, copy⟩
    (s.setStaging port (some g')).answer port .badProfile (writeReply v (some g') copy.failedBits)

/-- PROFILE_WRITE (R64). -/
def execProfileWrite (port : PortId) (value : Half) (s : State) : Result :=
  .next (s.unlessLoading port fun s =>
    match (s.port port).staging with
    | none => s.refuse port .noSession
    | some g => s.writeStaged port g value.toInt)

/-- PROFILE_READ (R70). -/
def execProfileRead (port : PortId) (profile : Byte) (s : State) : Result :=
  .next (s.unlessLoading port fun s =>
    match profileOf profile.toNat with
    | none => s.refuse port .range
    | some p =>
      s.answer port .ok ((s.profiles[p]).bytesOut ++ pointerBytes (s.port port).staging
        ++ match (s.port port).staging with
          | none => []
          | some g => g.copy.bytesOut))

end Sys2Proof.Machine
end

