-- ==== Sys2Proof/Machine/Receivers.lean ====
section
/-! DEFINITION. Receivers, acceptance filter and the queue's tail: SYNC_DETECTED, LINE_CODING_VIOLATION,
TELEGRAM_COMPLETION (R31 to R42). -/

namespace Sys2Proof.Machine

/-- The capacity of the telegram queue (R39). -/
def queueCapacity : Nat := 32

/-- An ID matches the acceptance pattern under the mask (R37). -/
def ConfigItems.matchesPattern (c : ConfigItems) (id : SensorId) : Bool :=
  (id ^^^ c.pattern) &&& ~~~c.mask == 0

/-- The acceptance filter (R36): whether an arriving telegram passes. -/
def State.filterPasses (s : State) (t : Telegram) : Bool :=
  !s.loading && validId t.id
    && ((s.lookup t.id).isSome
      || (s.learn.session.isSome && t.kind == .learn && s.config.matchesPattern t.id))

/-- An offer to the queue (R40, R41, R42). -/
def State.offer (s : State) (e : QueueEntry) : State :=
  if s.queue.length < queueCapacity then
    { s with queue := s.queue ++ [{ e with lost := s.lostPending }], lostPending := false }
  else ({ s with lostPending := true }).setFlagBoth .queueLost

/-- A completed telegram of 64 bits: the check byte (R32), the supply (R34), the filter (R36) and the queue (R40). -/
def State.completeTelegram (s : State) (ch : Channel) (rssi : Int) (bits : List Bool) : State :=
  if crcGood bits && s.supply.state == .normal && s.filterPasses (decodeTelegram bits) then
    s.offer ⟨ch, rssi, s.uptime, decodeTelegram bits, false⟩
  else s

/-- SYNC_DETECTED (R31, R33). -/
def execSyncDetected (ch : Channel) (bits : List Bool) (level : Int) (s : State) : Result :=
  .next (s.setReceiver ch ((s.receiver ch).sync bits level))

/-- LINE_CODING_VIOLATION (R31): HUNT with an empty history, whatever was being collected. -/
def execLineCodingViolation (ch : Channel) (s : State) : Result := .next (s.setReceiver ch (.hunt []))

/-- TELEGRAM_COMPLETION (R31, R32): in COLLECT the bits are added, and the 64th completes the telegram; in HUNT there
is no telegram to complete (log entry 2). -/
def execTelegramCompletion (ch : Channel) (bits : List Bool) (s : State) : Result :=
  match s.receiver ch with
  | .hunt _ => .next s
  | .collect rssi sofar =>
    match collectBits sofar bits with
    | (c, true) => .next ((s.setReceiver ch (.hunt [])).completeTelegram ch rssi c)
    | (c, false) => .next (s.setReceiver ch (.collect rssi c))

end Sys2Proof.Machine
end

