-- ==== Sys2Proof/Machine/Time.lean ====
section
/-! DEFINITION. Power, reset, time base and supply watch: POWER_UP, RESET_N, POWER_LOSS, UPTIME_TICK, VSENSE_SAMPLE
(R154 to R156, R159, R165, R177). -/

namespace Sys2Proof.Machine

/-- POWER_UP (R159). -/
def execPowerUp (s : State) : Result := .next s.restart

/-- RESET_N (R177): the effect of power-up throughout the part. -/
def execResetN (s : State) : Result := .next s.restart

/-- POWER_LOSS (R165): the same effect as a reset taken at the same moment (log entry 10). -/
def execPowerLoss (s : State) : Result := .next s.restart

/-- UPTIME_TICK (R156): one more tenth of a second, wrapping at 2^32. -/
def execUptimeTick (s : State) : Result := .next { s with uptime := s.uptime + 1 }

/-- Whether the supply watch samples at the uptime as it stands: a multiple of 5, from uptime 5 on (R154). Uptime 0 is a
sampling moment only after a wrap, when a sample has been taken (log entry 21). -/
def State.sampleMoment (s : State) : Bool :=
  s.uptime.toNat % 5 == 0 && (s.uptime != 0 || s.supply.lastSample.isSome)

/-- The change to LOW (R154, R155). -/
def State.supplyToLow (s : State) : State :=
  ({ s with supply := { s.supply with state := .low, recovery := 0 } }).setFlagBoth .supply

/-- The silence references of AWAITING and LIVE records moved to the uptime (R95). -/
def State.moveSilenceRefs (s : State) : State :=
  { s with
    wheels := tabulate fun i =>
      let r := s.wheels[i]
      if r.state.expires then { r with silenceRef := some s.uptime } else r }

/-- The position timer start of a RUNNING session moved to the uptime (R137). -/
def State.moveTimerStart (s : State) : State :=
  match s.learn.session with
  | some l => { s with learn := { s.learn with session := some { l with timerStart := s.uptime } } }
  | none => s

/-- A pending write begins (R162). -/
def State.beginPendingWrite (s : State) : State :=
  match s.store.state with
  | .pending => s.beginWrite
  | _ => s

/-- The change to NORMAL (R154, R155). -/
def State.supplyToNormal (s : State) : State :=
  ((({ s with supply := { s.supply with state := .normal, recovery := 0 } }).moveSilenceRefs).moveTimerStart
    ).beginPendingWrite.setFlagBoth .supply

/-- A sample judged against the threshold in force (R154). -/
def State.judgeSample (s : State) (v : Nat) : State :=
  let threshold := s.config.supplyThreshold
  match s.supply.state with
  | .normal => if (v : Int) < threshold then s.supplyToLow else s
  | .low =>
    if threshold + 15 ≤ (v : Int) then
      if s.supply.recovery = 0 then { s with supply := { s.supply with recovery := 1 } } else s.supplyToNormal
    else { s with supply := { s.supply with recovery := 0 } }

/-- A sample in units of 0.1 V, clamped to 0 to 400 (R154). -/
def clampSample (level : Int) : Nat := (clampInt 0 400 level).toNat

/-- VSENSE_SAMPLE (R154); at an uptime that is no sampling moment no sample is taken (log entry 2). DESIGN CHOICE (log
entry 27): a second one at the same uptime is judged as a further sample; the part itself samples once a moment. -/
def execVsenseSample (level : Int) (s : State) : Result :=
  if s.sampleMoment then
    .next (({ s with supply := { s.supply with lastSample := some (clampSample level) } }).judgeSample (clampSample level))
  else .next s

end Sys2Proof.Machine
end

