-- ==== Sys2Proof/Machine/Vehicle.lean ====
section
/-! DEFINITION. Vehicle-state and configuration items (R144 to R153): the SET_VEHICLE commands, READ_VEHICLE,
SET_CONFIG, READ_CONFIG. -/

namespace Sys2Proof.Machine

/-- VEHICLE on the port that did not write, and the reply with the item code and the value as taken (R145, R187). -/
def State.vehicleTaken (s : State) (port : PortId) (item : Nat) (value : Half) : State :=
  (s.setFlag (otherPort port) .vehicle).answer port .ok ([byte item] ++ bytes2 value)

/-! ## Load (R146) -/

/-- The load item written and its target change (R96, R146). -/
def State.writeLoad (s : State) (port : PortId) (x : LoadState) : State :=
  let s := { s with vehicle := { s.vehicle with load := x, loadWriter := some port } }
  (s.noteWheels (s.targetChange fun _ => true)).evaluate

/-- SET_VEHICLE of the load item. -/
def execSetVehicleLoad (port : PortId) (value : Half) (s : State) : Result :=
  .next (s.transact port fun s =>
    match loadOf value with
    | none => s.refuse port .range
    | some x => (s.writeLoad port x).vehicleTaken port 0 value)

/-! ## Body (R147) -/

/-- The body item written and handed to the permit unit (R120 to R122, R147). -/
def State.writeBody (s : State) (port : PortId) (x : BodyState) : State :=
  ({ s with vehicle := { s.vehicle with body := x, bodyWriter := some port } }).permitBodyWrite s.vehicle.body

/-- SET_VEHICLE of the body item. -/
def execSetVehicleBody (port : PortId) (value : Half) (s : State) : Result :=
  .next (s.transact port fun s =>
    match bodyOf value with
    | none => s.refuse port .range
    | some x => (s.writeBody port x).vehicleTaken port 1 value)

/-! ## Trailer (R148) -/

/-- Every DETACHED record attached (R19, R148). -/
def State.attachTrailer (s : State) : State := s.atEach allPos State.attachAt

/-- The records on present TRAILER axles detached (R19, R148). -/
def State.detachTrailer (s : State) : State :=
  s.detachAll (allPos.filter fun p => (s.axle p.axle).present && (s.axle p.axle).unit == .trailer)

/-- A session with trailer axles is cancelled (R138). -/
def State.cancelTrailerSession (s : State) : State :=
  match s.learn.session with
  | some l => if s.rangeHasTrailer l.range then s.endSession .cancelled else s
  | none => s

/-- The trailer item written, with the effects of a change (R148). -/
def State.writeTrailer (s : State) (port : PortId) (x : TrailerState) : State :=
  let t := { s with vehicle := { s.vehicle with trailer := x, trailerWriter := some port } }
  (match s.vehicle.trailer, x with
    | .absent, .present => t.noteWheels t.attachTrailer
    | .present, .absent => (t.noteWheels t.detachTrailer).cancelTrailerSession
    | _, _ => t).evaluate

/-- SET_VEHICLE of the trailer item. -/
def execSetVehicleTrailer (port : PortId) (value : Half) (s : State) : Result :=
  .next (s.transact port fun s =>
    match trailerOf value with
    | none => s.refuse port .range
    | some x => (s.writeTrailer port x).vehicleTaken port 2 value)

/-! ## Motion and lifted set (R149) -/

/-- The expiries now due, WHEEL if any was taken, and one evaluation (R149, R153). -/
def State.takeExpiries (s : State) : State := (s.noteWheels s.expireDue).evaluate

/-- The motion item written (R149). -/
def State.writeMotion (s : State) (port : PortId) (x : MotionState) : State :=
  ({ s with vehicle := { s.vehicle with motion := x, motionWriter := some port } }).takeExpiries

/-- SET_VEHICLE of the motion item. -/
def execSetVehicleMotion (port : PortId) (value : Half) (s : State) : Result :=
  .next (s.transact port fun s =>
    match motionOf value with
    | none => s.refuse port .range
    | some x => (s.writeMotion port x).vehicleTaken port 3 value)

/-- The lifted set written: no expiry is taken when the set as taken equals the set held (R149). -/
def State.writeLifted (s : State) (port : PortId) (x : BitVec 10) : State :=
  let t := { s with vehicle := { s.vehicle with lifted := x, liftedWriter := some port } }
  if s.vehicle.lifted = x then t.evaluate else t.takeExpiries

/-- SET_VEHICLE of the lifted set. -/
def execSetVehicleLiftedSet (port : PortId) (value : Half) (s : State) : Result :=
  .next (s.transact port fun s =>
    match axleSetOf value with
    | none => s.refuse port .range
    | some named =>
      (s.writeLifted port (s.admittedLifts named)).vehicleTaken port 4 ((s.admittedLifts named).setWidth 16))

/-! ## Ambient (R50) -/

/-- The ambient as taken (R145). -/
def clampAmbient (value : Half) : Int := clampInt 500 1100 (value.toNat : Int)

/-- SET_VEHICLE of the ambient item. -/
def execSetVehicleAmbient (port : PortId) (value : Half) (s : State) : Result :=
  .next (s.transact port fun s =>
    ({ s with vehicle := { s.vehicle with ambient := clampAmbient value, ambientWriter := some port } }).vehicleTaken
      port 5 (BitVec.ofInt 16 (clampAmbient value)))

/-- READ_VEHICLE (R150). -/
def execReadVehicle (port : PortId) (s : State) : Result :=
  .next (s.transact port fun s => s.answer port .ok s.vehicleBytes)

/-! ## Configuration (R152, R153) -/

/-- The effects of a configuration write in its own event (R153). -/
def State.configEffects (s : State) : ConfigItem → State
  | .movingLimit => s.takeExpiries
  | .stoppedLimit => s.takeExpiries
  | .learnTimeout => s.expireTimer
  | .referenceTemp => s
  | .pattern => s
  | .mask => s
  | .rssiFloor => s
  | .supplyThreshold => s

/-- A configuration item written (R152). -/
def State.writeConfig (s : State) (item : ConfigItem) (value : BitVec 32) : State :=
  (({ s with config := s.config.write item value, generation := s.generation + 1 }).setFlagBoth .image).configEffects item

/-- SET_CONFIG (R152). -/
def execSetConfig (port : PortId) (item : Byte) (value : BitVec 32) (s : State) : Result :=
  .next (s.unlessLoading port fun s =>
    match configItemOf item.toNat with
    | none => s.refuse port .range
    | some i =>
      (s.writeConfig i value).answer port .ok ([item] ++ bytes4 ((s.config.write i value).value i)))

/-- READ_CONFIG (R152). -/
def execReadConfig (port : PortId) (s : State) : Result :=
  .next (s.unlessLoading port fun s => s.answer port .ok s.config.bytesOut)

end Sys2Proof.Machine
end

