-- ==== Sys2Proof/Machine/Dispatch.lean ====
section
/-! DEFINITION. The meaning of every command, one arm per constructor of Instr. -/

namespace Sys2Proof.Machine

/-- The effect of a command on the part. -/
def exec (i : Instr) (s : State) : Host.Outcome State Fault Refusal :=
  match i with
  | .powerUp => Sys2Proof.Machine.execPowerUp s
  | .resetN => Sys2Proof.Machine.execResetN s
  | .uptimeTick => Sys2Proof.Machine.execUptimeTick s
  | .loadCompletion => Sys2Proof.Machine.execLoadCompletion s
  | .vsenseSample level => Sys2Proof.Machine.execVsenseSample level s
  | .telegramCompletion ch bits => Sys2Proof.Machine.execTelegramCompletion ch bits s
  | .entryTaken => Sys2Proof.Machine.execEntryTaken s
  | .silenceExpiry axle slot => Sys2Proof.Machine.execSilenceExpiry axle slot s
  | .positionTimerExpiry => Sys2Proof.Machine.execPositionTimerExpiry s
  | .writeBegin => Sys2Proof.Machine.execWriteBegin s
  | .writeCompletion verified => Sys2Proof.Machine.execWriteCompletion verified s
  | .malformedCommandFrame port sdi => Sys2Proof.Machine.execMalformedCommandFrame port sdi s
  | .nop port => Sys2Proof.Machine.execNop port s
  | .readId port => Sys2Proof.Machine.execReadId port s
  | .getEvents port => Sys2Proof.Machine.execGetEvents port s
  | .setEventMask port mask => Sys2Proof.Machine.execSetEventMask port mask s
  | .portReset port => Sys2Proof.Machine.execPortReset port s
  | .readWheels port firstAxle firstSlot axleCount slotCount => Sys2Proof.Machine.execReadWheels port firstAxle firstSlot axleCount slotCount s
  | .readAxles port firstAxle axleCount => Sys2Proof.Machine.execReadAxles port firstAxle axleCount s
  | .readAlerts port start => Sys2Proof.Machine.execReadAlerts port start s
  | .ackAlert port axle slot kind => Sys2Proof.Machine.execAckAlert port axle slot kind s
  | .readPermit port => Sys2Proof.Machine.execReadPermit port s
  | .setVehicleLoad port value => Sys2Proof.Machine.execSetVehicleLoad port value s
  | .setVehicleBody port value => Sys2Proof.Machine.execSetVehicleBody port value s
  | .setVehicleTrailer port value => Sys2Proof.Machine.execSetVehicleTrailer port value s
  | .setVehicleMotion port value => Sys2Proof.Machine.execSetVehicleMotion port value s
  | .setVehicleLiftedSet port value => Sys2Proof.Machine.execSetVehicleLiftedSet port value s
  | .setVehicleAmbient port value => Sys2Proof.Machine.execSetVehicleAmbient port value s
  | .readVehicle port => Sys2Proof.Machine.execReadVehicle port s
  | .setConfig port item value => Sys2Proof.Machine.execSetConfig port item value s
  | .readConfig port => Sys2Proof.Machine.execReadConfig port s
  | .mapAssign port expected axle slot id => Sys2Proof.Machine.execMapAssign port expected axle slot id s
  | .mapRemove port expected axle slot => Sys2Proof.Machine.execMapRemove port expected axle slot s
  | .mapSetAxle port expected axle present unit kind profile tipCritical liftCapable => Sys2Proof.Machine.execMapSetAxle port expected axle present unit kind profile tipCritical liftCapable s
  | .mapMove port expected srcAxle srcSlot axleCount slotCount dstAxle dstSlot mode => Sys2Proof.Machine.execMapMove port expected srcAxle srcSlot axleCount slotCount dstAxle dstSlot mode s
  | .mapProtect port expected action first last => Sys2Proof.Machine.execMapProtect port expected action first last s
  | .profileSelect port profile field => Sys2Proof.Machine.execProfileSelect port profile field s
  | .profileWrite port value => Sys2Proof.Machine.execProfileWrite port value s
  | .profileRead port profile => Sys2Proof.Machine.execProfileRead port profile s
  | .learnStart port expected first last => Sys2Proof.Machine.execLearnStart port expected first last s
  | .learnSkip port => Sys2Proof.Machine.execLearnSkip port s
  | .learnFinish port => Sys2Proof.Machine.execLearnFinish port s
  | .learnAbort port => Sys2Proof.Machine.execLearnAbort port s
  | .learnStatus port => Sys2Proof.Machine.execLearnStatus port s
  | .storeCommit port => Sys2Proof.Machine.execStoreCommit port s
  | .storeStatus port => Sys2Proof.Machine.execStoreStatus port s
  | .syncDetected ch bits level => Sys2Proof.Machine.execSyncDetected ch bits level s
  | .lineCodingViolation ch => Sys2Proof.Machine.execLineCodingViolation ch s
  | .powerLoss => Sys2Proof.Machine.execPowerLoss s

end Sys2Proof.Machine
end

