-- ==== Sys2Proof/Safety.lean ====
section
/-! DEFINITION. The laws of the device as predicates on a state ("Laws of the device" of spec/00_scope.md, with the rules
that own them). Each says what every reachable state satisfies. -/

namespace Sys2Proof.Safety

open Sys2Proof.Machine

/-! ## A frame -/

/-- t is u but for wheel records, the alert list, the verdict record, and WHEEL, ALERT_RAISED, ALERT_CLEARED and PERMIT
(flags 1 to 4), which may have been set, on both ports alike. -/
structure JudgedFrom (t u : State) : Prop where
  pending : t.pending = u.pending
  rx0 : t.rx0 = u.rx0
  rx1 : t.rx1 = u.rx1
  queue : t.queue = u.queue
  lostPending : t.lostPending = u.lostPending
  axles : t.axles = u.axles
  slots : t.slots = u.slots
  protect : t.protect = u.protect
  generation : t.generation = u.generation
  profiles : t.profiles = u.profiles
  learn : t.learn = u.learn
  vehicle : t.vehicle = u.vehicle
  config : t.config = u.config
  supply : t.supply = u.supply
  uptime : t.uptime = u.uptime
  store : t.store = u.store
  nonvolatile : t.nonvolatile = u.nonvolatile
  freeIndex : t.freeIndex = u.freeIndex
  reply : ∀ q, (t.port q).reply = (u.port q).reply
  selected : ∀ q, (t.port q).selected = (u.port q).selected
  cut : ∀ q, (t.port q).cut = (u.port q).cut
  mask : ∀ q, (t.port q).mask = (u.port q).mask
  staging : ∀ q, (t.port q).staging = (u.port q).staging
  flags : ∃ m : BitVec 11, m &&& 0x7E1#11 = 0 ∧ ∀ q, (t.port q).flags = (u.port q).flags ||| m

/-! ## Receivers and queue -/

/-- A level in the range of an RSSI (R33). -/
def RssiInRange (v : Int) : Prop := -120 ≤ v ∧ v ≤ -20

/-- A receiver holds at most 16 bits of history, or fewer than 64 bits of a telegram with its RSSI in range (R31, R33). -/
def ReceiverLaw : Receiver → Prop
  | .hunt history => history.length ≤ 16
  | .collect rssi bits => bits.length < telegramLength ∧ RssiInRange rssi

/-- The receive path (R31, R39): the receivers, and at most 32 entries, each with a valid ID and an RSSI in range. -/
structure ReceiveLaw (s : State) : Prop where
  rx0 : ReceiverLaw s.rx0
  rx1 : ReceiverLaw s.rx1
  bounded : s.queue.length ≤ queueCapacity
  ids : ∀ e ∈ s.queue, validId e.telegram.id = true
  levels : ∀ e ∈ s.queue, RssiInRange e.rssi

/-! ## Values in their ranges -/

/-- Every field of a profile lies in its range (R60). -/
def ProfileInRange (p : Profile) : Prop := ∀ f : Fin 11, (fieldRange f).1 ≤ p[f] ∧ p[f] ≤ (fieldRange f).2

/-- Every configuration item lies in its range (R151). -/
structure ConfigInRange (c : ConfigItems) : Prop where
  moving : 30 ≤ c.movingLimit ∧ c.movingLimit ≤ 600
  stopped : 300 ≤ c.stoppedLimit ∧ c.stoppedLimit ≤ 7200
  reference : -20 ≤ c.referenceTemp ∧ c.referenceTemp ≤ 40
  floor : -120 ≤ c.rssiFloor ∧ c.rssiFloor ≤ -40
  timeout : 10 ≤ c.learnTimeout ∧ c.learnTimeout ≤ 600
  threshold : 80 ≤ c.supplyThreshold ∧ c.supplyThreshold ≤ 240

/-- The staging copy of a port lies in the ranges of R60 (R62). -/
def StagingInRange (x : Port) : Prop := ∀ g, x.staging = some g → ProfileInRange g.copy

/-- Configuration, committed profiles, staging copies, ambient, protect range and last sample lie in their ranges (R11,
R60, R62, R144, R151, R154), and committed profiles pass the commit checks (R65). -/
structure RangeLaw (s : State) : Prop where
  config : ConfigInRange s.config
  profiles : ∀ f : Fin 4, ProfileInRange s.profiles[f]
  checks : ∀ f : Fin 4, (s.profiles[f]).passesChecks = true
  stagingA : StagingInRange s.portA
  stagingB : StagingInRange s.portB
  ambient : 500 ≤ s.vehicle.ambient ∧ s.vehicle.ambient ≤ 1100
  protect : ∀ r, s.protect = some r → r.lo ≤ r.hi ∧ r.hi ≤ 9
  sample : ∀ v, s.supply.lastSample = some v → v ≤ 400

/-- The lifted set holds only axles that are present and lift-capable (R144); during LOADING no axle is present (R5). -/
structure LiftLaw (s : State) : Prop where
  admitted : ∀ a : Fin 10, s.vehicle.lifted.getLsbD a.val = true → (s.axle a).present = true ∧ (s.axle a).liftCapable = true
  loading : s.loading = true → ∀ a : Fin 10, (s.axle a).present = false

/-! ## The load -/

/-- What every block holds while the store controller is LOADING (R159), and the basis STARTING exactly then (R114). -/
structure LoadingLaw (s : State) : Prop where
  basis : s.permit.basis = .starting ↔ s.loading = true
  queue : s.loading = true → s.queue = []
  axles : s.loading = true → s.axles = Vector.replicate 10 AxleRecord.default
  slots : s.loading = true → s.slots = Vector.replicate 40 none
  protect : s.loading = true → s.protect = none
  profiles : s.loading = true → s.profiles = Vector.replicate 4 Profile.default
  config : s.loading = true → s.config = ConfigItems.default
  generation : s.loading = true → s.generation = 0
  wheels : s.loading = true → s.wheels = Vector.replicate 40 WheelRecord.empty
  alerts : s.loading = true → s.alerts = ⟨[], [], false⟩
  session : s.loading = true → s.learn.session = none
  staging : s.loading = true → s.portA.staging = none ∧ s.portB.staging = none

/-! ## Map and session -/

/-- The slot map (R6): valid IDs, in valid slots, none in two slots. -/
structure MapLaw (s : State) : Prop where
  valid : ∀ p id, s.slotId p = some id → validId id = true ∧ s.validPos p = true
  unique : ∀ p q id, s.slotId p = some id → s.slotId q = some id → p = q

/-- A RUNNING session (R127, R128): its list is that of its range under the axle table as it stands, its cursor is at a
position, there is one staging entry for each position before the cursor, and no ID is staged twice. -/
structure SessionLaw (s : State) : Prop where
  range : ∀ l, s.learn.session = some l → l.range.lo ≤ l.range.hi ∧ l.range.hi ≤ 9
  positions : ∀ l, s.learn.session = some l → l.positions = s.positionList l.range
  cursor : ∀ l, s.learn.session = some l → l.cursor < l.positions.length
  staged : ∀ l, s.learn.session = some l → l.staging.map Prod.fst = l.positions.take l.cursor
  ids : ∀ l, s.learn.session = some l → ∀ e ∈ l.staging, ∀ id, e.2 = some id → validId id = true
  unique : ∀ l, s.learn.session = some l → (l.staging.filterMap Prod.snd).Nodup
  trailer : ∀ l, s.learn.session = some l → s.rangeHasTrailer l.range = true → s.vehicle.trailer = .present
  loaded : s.learn.session.isSome = true → s.loading = false

/-! ## Wheel records -/

/-- A record is EMPTY exactly when its slot holds no sensor, and then holds the empty values of R16 (R73). -/
structure RecordLaw (s : State) : Prop where
  empty : ∀ p, (s.wheel p).state = .empty ↔ s.slotId p = none
  values : ∀ p, (s.wheel p).state = .empty → s.wheel p = .empty

/-- A DETACHED wheel is on a TRAILER axle while the trailer is ABSENT, and has no active condition (R73). -/
structure DetachedLaw (s : State) : Prop where
  detached : ∀ p, (s.wheel p).state = .detached → s.detachedSlot p = true
  conditions : ∀ p, (s.wheel p).state = .detached → (s.wheel p).conditions = .none

/-- Held pressures and temperatures lie in their ranges (R49, R55). -/
structure PressureLaw (s : State) : Prop where
  cold : ∀ p c, (s.wheel p).pCold = some c → 0 ≤ c ∧ c ≤ 18340
  held : ∀ p t, (s.wheel p).heldTemp = some t → -50 ≤ t ∧ t ≤ 204

/-- The stale marker is set exactly while the state is not LIVE and a P_cold is held (R75). -/
def StaleLaw (s : State) : Prop :=
  ∀ p, (s.wheel p).stale = true ↔ (s.wheel p).state ≠ .live ∧ (s.wheel p).pCold.isSome = true

/-- The pressure and temperature conditions mirror the bands (R87, R88). -/
structure MirrorLaw (s : State) : Prop where
  lowAlarm : ∀ p, s.active p .lowAlarm = true ↔ (s.wheel p).band = .alarmLow
  lowWarn : ∀ p, s.active p .lowWarn = true ↔ (s.wheel p).band = .warnLow
  highWarn : ∀ p, s.active p .highWarn = true ↔ (s.wheel p).band = .highWarn
  hotWarn : ∀ p, s.active p .hotWarn = true ↔ (s.wheel p).tempBand = .hotWarn
  hotAlarm : ∀ p, s.active p .hotAlarm = true ↔ (s.wheel p).tempBand = .hotAlarm

/-- The pending state of a record holds a count of 0 or 1, with a direction and a floor of that side exactly at 1 (R84). -/
def PendingLaw (q : Pending) : Prop :=
  q = .clear ∨ ∃ z side, Band.side z = some side ∧ q = ⟨some side, 1, some z⟩

/-- Counts lie in their ranges, and a pending floor asks for a move away from the band (R84, R86, R90). -/
structure CountLaw (s : State) : Prop where
  pending : ∀ p, PendingLaw (s.wheel p).pending
  floor : ∀ p z, (s.wheel p).pending.floor = some z → z.raiseCandidate (s.wheel p).band = true
  leak : ∀ p, (s.wheel p).leakCount ≤ 2

/-- IMBALANCE is held by both members of a dual pair or by neither, and only while both are LIVE with a P_cold on a present
DUAL axle (R20, R91, R92). -/
structure PairLaw (s : State) : Prop where
  dual : ∀ p, s.active p .imbalance = true → (s.axle p.axle).present = true ∧ (s.axle p.axle).kind = .dual
  live : ∀ p, s.active p .imbalance = true → (s.wheel p).livePressure.isSome = true
  both : ∀ p : Pos, s.active p.pairLow .imbalance = s.active p.pairHigh .imbalance

/-! ## Alert list -/

/-- The wheel and kind of an entry. -/
def named (e : AlertEntry) : Pos × Condition := (e.pos, e.kind)

/-- The alert list (R100, R105): at most 64 entries, no two for one wheel and kind, each naming an active condition; the
overflow set likewise and apart from the entries, with the marker set while it holds a member. -/
structure AlertLaw (s : State) : Prop where
  bounded : s.alerts.entries.length ≤ alertCapacity
  distinct : (s.alerts.entries.map named ++ s.alerts.overflow).Nodup
  active : ∀ m ∈ s.alerts.entries.map named ++ s.alerts.overflow, s.active m.1 m.2 = true
  marker : s.alerts.overflow ≠ [] → s.alerts.marker = true

/-! ## Tip permit -/

/-- The verdict record (R114, R118, R120): at most eight reasons, WITHHELD while STARTING, and latched exactly while a
WITHHELD verdict is held by the body. -/
structure PermitLaw (s : State) : Prop where
  reasons : s.permit.reasons.length ≤ 8
  starting : s.permit.basis = .starting → s.permit.verdict = .withheld ∧ s.permit.reasons = [] ∧ s.permit.more = false
  latched : s.permit.latched = true ↔ s.vehicle.body ≠ .down ∧ s.permit.verdict = .withheld

/-- The verdict record is up to date (R118 to R120): while the basis is EVALUATED, evaluating again would change
nothing. -/
def PermitCurrent (s : State) : Prop := s.permit.basis = .evaluated → s.permit = s.evaluatedPermit

/-! ## Image store -/

/-- The store controller (R158, R160, R162, R163): a write waits only while supply is LOW, a stored generation is held
exactly with a VALID image, and it is the generation of a valid image that the non-volatile store holds. -/
structure StoreLaw (s : State) : Prop where
  pending : s.store.state = .pending → s.supply.state = .low
  valid : s.store.imageValid = true ↔ s.store.storedGeneration.isSome = true
  content : ∀ g, s.store.storedGeneration = some g → ∃ i, s.nonvolatile.validImage = some i ∧ i.generation = g
  recovery : s.supply.recovery ≠ 0 → s.supply.state = .low

/-! ## All of them -/

/-- Every law of the device. -/
structure Lawful (s : State) : Prop where
  receive : ReceiveLaw s
  range : RangeLaw s
  lift : LiftLaw s
  loading : LoadingLaw s
  map : MapLaw s
  session : SessionLaw s
  record : RecordLaw s
  detached : DetachedLaw s
  pressure : PressureLaw s
  stale : StaleLaw s
  mirror : MirrorLaw s
  count : CountLaw s
  pair : PairLaw s
  alert : AlertLaw s
  permit : PermitLaw s
  current : PermitCurrent s
  store : StoreLaw s

end Sys2Proof.Safety
end

