-- ==== Sys2Proof/WellFormed.lean ====
section
/-! DEFINITION. Which commands are events that the spec describes. The checks read the command alone; whether an event is
due is a matter of the state, and the command's meaning judges it. -/

namespace Sys2Proof

open Machine

/-- The bits of a sync: the last of them completes the sync word, so there is at least one (R31). -/
def wfSync (bits : List Bool) : Bool := !bits.isEmpty

/-- The bits of a completion: at least the 64th of the telegram, and at most all 64 (R31). -/
def wfCompletion (bits : List Bool) : Bool := !bits.isEmpty && decide (bits.length ≤ telegramLength)

/-- The bits of a MALFORMED_COMMAND_FRAME: the port answers them itself (R168). -/
def wfMalformed (port : PortId) (sdi : List Bool) : Bool := (judgeFrame port sdi).status.isSome

/-- A well-formed command. -/
def Instr.wf : Instr → Bool
  | .syncDetected _ bits _ => wfSync bits
  | .telegramCompletion _ bits => wfCompletion bits
  | .malformedCommandFrame port sdi => wfMalformed port sdi
  | _ => true

end Sys2Proof
end

