-- ==== Sys2Proof/Certificates/Slice0/Obligations.lean ====
section
/-! DEFINITION. The statements about the part. Claims.* are their shared words; each obligation says what a rule of spec/
says, in terms of the state before and the state after. A reply's layout is written out where a statement needs it. -/

open Sys2Proof Sys2Proof.Machine Sys2Proof.Safety

/-! ## Words shared by statements -/

/-- The two bytes of a word, most significant first (R178). -/
def Sys2Proof.Claims.two (x : BitVec 16) : List Byte := [x.extractLsb' 8 8, x.extractLsb' 0 8]

/-- The four bytes of a word, most significant first (R178). -/
def Sys2Proof.Claims.four (x : BitVec 32) : List Byte :=
  [x.extractLsb' 24 8, x.extractLsb' 16 8, x.extractLsb' 8 8, x.extractLsb' 0 8]

/-- The bits of bytes, the most significant bit of each first (R31, R167). -/
def Sys2Proof.Claims.bits (bytes : List Byte) : List Bool :=
  bytes.flatMap fun b => [b.getLsbD 7, b.getLsbD 6, b.getLsbD 5, b.getLsbD 4, b.getLsbD 3, b.getLsbD 2, b.getLsbD 1, b.getLsbD 0]

/-- A port takes the transaction that ends: no reset has cut it (R167). -/
abbrev Sys2Proof.Claims.Takes (s : State) (q : PortId) : Prop := (s.port q).cut = false

/-- Both ports hold a flag. -/
def Sys2Proof.Claims.Flagged (t : State) (f : EventFlag) : Prop := ∀ q, (t.port q).flag f = true

/-- The other port. -/
def Sys2Proof.Claims.other : PortId → PortId
  | .a => .b
  | .b => .a

/-- A record with IMBALANCE written and nothing else. -/
def Sys2Proof.Claims.UpToImbalance (after before : WheelRecord) : Prop :=
  ∃ b, after = { before with conditions := before.conditions.put .imbalance b }

/-- The fresh-start values of R16 at a slot: AWAITING, or DETACHED at a detached slot. -/
def Sys2Proof.Claims.freshRecord (s : State) (p : Pos) : WheelRecord :=
  { WheelRecord.empty with
    state := if s.detachedSlot p then .detached else .awaiting
    silenceRef := some s.uptime }

/-- The RSSI fields of an accepted entry (R79). -/
def Sys2Proof.Claims.acceptedRssi (r : WheelRecord) (e : QueueEntry) : WheelRecord :=
  match e.channel with
  | .rx0 => { r with rssi0 := some e.rssi, rssi1 := none }
  | .rx1 => { r with rssi0 := none, rssi1 := some e.rssi }

/-- An entry that no session is handed: not LEARN, or no session RUNNING (R44). -/
def Sys2Proof.Claims.NotHandedOver (s : State) (e : QueueEntry) : Prop := e.telegram.kind ≠ .learn ∨ s.learn.session = none

/-- The repeat test of R78. -/
def Sys2Proof.Claims.IsRepeat (r : WheelRecord) (e : QueueEntry) : Prop :=
  ∃ t, r.lastSequence = some e.telegram.sequence ∧ r.lastAccept = some t ∧ (e.arrival - t).toNat < 300

/-- A record that accepts an entry: AWAITING or LIVE and no repeat, or SILENT (R77, R78). -/
def Sys2Proof.Claims.Accepts (r : WheelRecord) (e : QueueEntry) : Prop :=
  ((r.state = .awaiting ∨ r.state = .live) ∧ ¬ Claims.IsRepeat r e) ∨ r.state = .silent

/-- P_cold of a reading (R47, R48, R52 to R54). -/
def Sys2Proof.Claims.cold (s : State) (r : WheelRecord) (t : Telegram) : Int :=
  let g : Int := if t.pressureCode.toNat = 511 then 12750 else 25 * (t.pressureCode.toNat : Int)
  let reference := s.config.referenceTemp
  let used : Int := if t.tempCode.toNat = 255 then r.heldTemp.getD reference else (t.tempCode.toNat : Int) - 50
  max 0 ((2 * (g + s.vehicle.ambient) * (reference + 273) + (used + 273)).tdiv (2 * (used + 273)) - s.vehicle.ambient)

/-- The silence limit in force for an axle (R93), in tenths of a second. -/
def Sys2Proof.Claims.silenceLimit (s : State) (a : Fin 10) : Int :=
  if s.vehicle.motion = .moving ∧ s.vehicle.lifted.getLsbD a.val = false then 10 * s.config.movingLimit
  else 10 * s.config.stoppedLimit

/-- A record is LIVE and holds a P_cold. -/
def Sys2Proof.Claims.LiveAt (s : State) (p : Pos) (c : Int) : Prop := (s.wheel p).state = .live ∧ (s.wheel p).pCold = some c

/-- A silence expiry is due (R94). -/
def Sys2Proof.Claims.Due (s : State) (p : Pos) : Prop :=
  ((s.wheel p).state = .awaiting ∨ (s.wheel p).state = .live) ∧ s.supply.state = .normal
    ∧ ∃ r, (s.wheel p).silenceRef = some r ∧ Claims.silenceLimit s p.axle ≤ ((s.uptime - r).toNat : Int)

/-- The ranges of the eleven profile fields (R60). -/
def Sys2Proof.Claims.fieldRanges : Vector (Int × Int) 11 :=
  #v[(2000, 12000), (2000, 12000), (50, 400), (60, 600), (50, 400), (5, 100), (20, 300), (50, 2000), (40, 150), (50, 180),
    (20, 300)]

/-- The nearest value of a range (R2). -/
def Sys2Proof.Claims.nearest (lo hi x : Int) : Int := max lo (min hi x)

/-- A valid slot (R3): of a present axle, and LI and RI only on a DUAL axle. -/
def Sys2Proof.Claims.ValidSlot (r : AxleRecord) (slot : Fin 4) : Prop :=
  r.present = true ∧ (r.kind = .dual ∨ slot = 0 ∨ slot = 3)

/-- An axle lies in a range of axles. -/
def Sys2Proof.Claims.Within (r : AxleRange) (a : Nat) : Prop := r.lo ≤ a ∧ a ≤ r.hi

/-- An axle is protected (R11). -/
def Sys2Proof.Claims.Protected (s : State) (a : Nat) : Prop := ∃ r, s.protect = some r ∧ Claims.Within r a

/-- An axle lies in the range of a RUNNING session (R13). -/
def Sys2Proof.Claims.InSession (s : State) (a : Nat) : Prop := ∃ l, s.learn.session = some l ∧ Claims.Within l.range a

/-! ## The block -/

def Obligations.StepRunsTheFrontCommand : Prop :=
  (∀ c rest (s : State), step { s with pending := c :: rest } = exec c { s with pending := rest })
  ∧ ∀ s : State, s.pending = [] → step s = .next s

def Obligations.ResetHoldsPowerUpValues : Prop :=
  State.reset.rx0 = .hunt [] ∧ State.reset.rx1 = .hunt []
  ∧ State.reset.queue = [] ∧ State.reset.lostPending = false
  ∧ (∀ a, State.reset.axle a = ⟨false, .truck, .single, 0, false, false⟩)
  ∧ (∀ p, State.reset.slotId p = none) ∧ State.reset.protect = none ∧ State.reset.generation = 0
  ∧ (∀ f : Fin 4, State.reset.profiles[f] = #v[7500, 9000, 100, 200, 150, 20, 100, 200, 90, 110, 80])
  ∧ (∀ p, State.reset.wheel p = .empty)
  ∧ State.reset.alerts = ⟨[], [], false⟩
  ∧ State.reset.permit = ⟨.withheld, .starting, false, [], false⟩
  ∧ State.reset.learn = ⟨none, .none⟩
  ∧ State.reset.vehicle = ⟨.unladen, none, .down, none, .absent, none, .stopped, none, 0, none, 1013, none⟩
  ∧ State.reset.config = ⟨90, 1800, 20, 0x00000000, 0xFFFFFFFF, -85, 120, 160⟩
  ∧ State.reset.supply = ⟨.normal, 0, none⟩
  ∧ State.reset.uptime = 0
  ∧ State.reset.store = ⟨.loading, none, false, .none⟩
  ∧ (∀ q, (State.reset.port q).reply = ⟨.ok, 0, []⟩ ∧ (State.reset.port q).staging = none
      ∧ (State.reset.port q).selected = false ∧ (State.reset.port q).cut = false
      ∧ ∀ f, (State.reset.port q).flag f = (f == .restarted) ∧ (State.reset.port q).mask.getLsbD f.number = true)
  ∧ State.reset.tipOkPin = false ∧ ∀ q, State.reset.atnPin q = true

def Obligations.ResetSatisfiesEveryLaw : Prop := Lawful State.reset

def Obligations.RestartGivesThePowerUpState : Prop :=
  ∀ s : State,
    let t := { State.reset with
      pending := s.pending
      freeIndex := s.freeIndex
      nonvolatile := match s.store.state with
        | .writing _ => .torn
        | _ => s.nonvolatile
      portA := { State.reset.portA with selected := s.portA.selected, cut := s.portA.selected }
      portB := { State.reset.portB with selected := s.portB.selected, cut := s.portB.selected } }
    exec .powerUp s = .next t ∧ exec .resetN s = .next t ∧ exec .powerLoss s = .next t

def Obligations.UptimeTickAddsOneTenth : Prop :=
  (∀ s : State, exec .uptimeTick s = .next { s with uptime := s.uptime + 1 })
  ∧ (BitVec.ofNat 32 4294967295 + 1 : Uptime) = 0
  ∧ ∀ later earlier : Uptime, elapsed later earlier = (later.toNat + (2 ^ 32 - earlier.toNat)) % 2 ^ 32

/-! ## Ports -/

def Obligations.IdentificationNopAndEventReplies : Prop :=
  ∀ (s : State) (q : PortId), Claims.Takes s q →
    exec (.readId q) s = .next (s.answer q .ok [0x04, 0x18, 0x01, (match q with | .a => 0x00 | .b => 0x01), 10, 40, 32, 64])
    ∧ exec (.nop q) s = .next (s.answer q .ok [])
    ∧ exec (.getEvents q) s
      = .next ((s.setPort q { s.port q with flags := 0 }).answer q .ok (Claims.two ((s.port q).flags.setWidth 16)))

def Obligations.EventMaskMovesTheAttentionLine : Prop :=
  (∀ (s : State) (q : PortId) (m : Half), Claims.Takes s q →
    exec (.setEventMask q m) s
      = .next ((s.setPort q { s.port q with mask := m.setWidth 11 }).answer q .ok
          (Claims.two ((m.setWidth 11).setWidth 16))))
  ∧ (∀ (s : State) (q : PortId),
      s.attention q = true ↔ ∃ f, (s.port q).flag f = true ∧ (s.port q).mask.getLsbD f.number = false)
  ∧ (∀ q, State.reset.attention q = false)
  ∧ ∀ (s t : State) (q : PortId), Claims.Takes s q → s.loading = false → exec (.portReset q) s = .next t →
      t.attention q = false

def Obligations.PortResetRestartsOneInterface : Prop :=
  ∀ (s : State) (q : PortId), Claims.Takes s q →
    (s.loading = true → exec (.portReset q) s = .next (s.answer q .busy []))
    ∧ (s.loading = false →
      exec (.portReset q) s = .next
        ((State.setPort
            { s with alerts := { s.alerts with
                entries := s.alerts.entries.map fun e => match q with
                  | .a => { e with unackA := true }
                  | .b => { e with unackB := true } } }
            q { s.port q with
              flags := if s.alerts.entries = [] then 0b00000000001 else 0b00000000101
              mask := BitVec.allOnes 11
              staging := none }).answer q .ok []))
    ∧ ∀ t, s.loading = false → exec (.portReset q) s = .next t → t.attention q = false

/-- The status codes (R170). -/
def Sys2Proof.Claims.statusCode : Status → Byte
  | .ok => 0x00 | .accepted => 0x01 | .busy => 0x02 | .stale => 0x03 | .underProtection => 0x04 | .range => 0x05
  | .inUse => 0x06 | .badId => 0x07 | .badProfile => 0x08 | .noSession => 0x09 | .noTrailer => 0x0A | .unknown => 0x0B
  | .length => 0x0C | .frame => 0x0D

/-- A command that a transaction on a port brings, or a transaction that brings none (R168). -/
def Sys2Proof.Claims.EndsOn (q : PortId) (c : Instr) : Prop :=
  (∃ frame, encodeFrame c = some (q, frame)) ∨ ∃ sdi, c = .malformedCommandFrame q sdi

def Obligations.ReplySlotIsShiftedOutNext : Prop :=
  (∀ (s : State) (q r : PortId) (st : Status) (bs : List Byte) (k : Nat),
    let t := s.answer q st bs
    (t.port q).reply = ⟨st, s.generation, bs⟩
    ∧ (bs.length ≤ 255 → (t.port q).shiftOut (4 + bs.length + k)
        = [Claims.statusCode st, BitVec.ofNat 8 bs.length] ++ Claims.two s.generation ++ bs ++ List.replicate k 0)
    ∧ (r ≠ q → t.port r = s.port r)
    ∧ (t.port q).flags = (s.port q).flags ∧ (t.port q).mask = (s.port q).mask ∧ (t.port q).staging = (s.port q).staging
    ∧ (t.port q).selected = (s.port q).selected ∧ (t.port q).cut = (s.port q).cut)
  ∧ (∀ (s : State) (q : PortId) (n : Nat),
    ((s.port q).selected = false → s.sdoPin q n = none)
    ∧ ∀ b, (s.port q).selected = true → ((s.port q).shiftOut (n / 8 + 1))[n / 8]? = some b →
        s.sdoPin q n = some (b.getLsbD (7 - n % 8)))
  ∧ ∀ (s : State) (q : PortId) (c : Instr), (s.port q).cut = true → Claims.EndsOn q c →
    exec c s = .next (s.setPort q { s.port q with cut := false })

def Obligations.MalformedFramesChangeOnlyTheReply : Prop :=
  ∀ (s : State) (q : PortId), Claims.Takes s q →
    exec (.malformedCommandFrame q []) s = .next s
    ∧ (∀ bits, bits ≠ [] → (bits.length % 8 ≠ 0 ∨ bits.length < 16) →
        exec (.malformedCommandFrame q bits) s = .next (s.answer q .frame []))
    ∧ (∀ (item v1 v0 : Byte) (beyond : List Byte), 5 < item.toNat →
        exec (.malformedCommandFrame q (Claims.bits ([0x0A, 0x03, item, v1, v0] ++ beyond))) s = .next (s.answer q .range []))
    ∧ (∀ (c : Instr) (frame beyond : List Byte), encodeFrame c = some (q, frame) →
        exec (.malformedCommandFrame q (Claims.bits (frame ++ beyond))) s = .next s)
    ∧ ∀ (code n : Byte) (rest : List Byte),
        (rest.length < n.toNat →
          exec (.malformedCommandFrame q (Claims.bits (code :: n :: rest))) s = .next (s.answer q .frame []))
        ∧ (n.toNat ≤ rest.length → 0x1C < code.toNat →
          exec (.malformedCommandFrame q (Claims.bits (code :: n :: rest))) s = .next (s.answer q .unknown []))
        ∧ (n.toNat ≤ rest.length → code.toNat ≤ 0x1C →
          some n.toNat ≠ [0, 0, 0, 2, 0, 4, 2, 1, 3, 0, 3, 0, 5, 0, 8, 4, 9, 9, 5, 2, 2, 1, 4, 0, 0, 0, 0, 0, 0][code.toNat]? →
          exec (.malformedCommandFrame q (Claims.bits (code :: n :: rest))) s = .next (s.answer q .length []))

def Obligations.CommandFrameRoundTrip : Prop :=
  ∀ (c : Instr) (q : PortId) (bytes beyond : List Byte), encodeFrame c = some (q, bytes) →
    judgeFrame q (bitsOfBytes (bytes ++ beyond)) = .command c

/-- The codes of the commands that R159 takes during LOADING. -/
def Sys2Proof.Claims.takenDuringLoading : List Byte := [0x00, 0x01, 0x02, 0x03, 0x0A, 0x0B, 0x1C]

def Obligations.OtherCommandsAreBusyDuringLoading : Prop :=
  ∀ (s : State) (c : Instr) (q : PortId) (code : Byte) (frame : List Byte), Claims.Takes s q → s.loading = true →
    encodeFrame c = some (q, code :: frame) → code ∉ Claims.takenDuringLoading →
    exec c s = .next (s.answer q .busy [])

/-! ## Replies that read -/

/-- The number of a writer (R178). -/
def Sys2Proof.Claims.writer : Option PortId → Byte
  | none => 0 | some .a => 1 | some .b => 2

/-- The numbers of a profile's fields (R187). -/
def Sys2Proof.Claims.fields (f : Profile) : List Byte :=
  (List.finRange 11).flatMap fun i => Claims.two (BitVec.ofInt 16 f[i])

/-- The READ_VEHICLE reply (R150, R187). -/
def Sys2Proof.Claims.vehicleReply (s : State) : List Byte :=
  [(match s.vehicle.load with | .unladen => (0 : Byte) | .laden => 1), Claims.writer s.vehicle.loadWriter,
   (match s.vehicle.body with | .down => 0 | .raising => 1 | .raised => 2 | .lowering => 3), Claims.writer s.vehicle.bodyWriter,
   (match s.vehicle.trailer with | .absent => 0 | .present => 1), Claims.writer s.vehicle.trailerWriter,
   (match s.vehicle.motion with | .stopped => 0 | .moving => 1), Claims.writer s.vehicle.motionWriter]
  ++ Claims.two (s.vehicle.lifted.setWidth 16) ++ [Claims.writer s.vehicle.liftedWriter]
  ++ Claims.two (BitVec.ofInt 16 s.vehicle.ambient) ++ [Claims.writer s.vehicle.ambientWriter]
  ++ [(match s.supply.state with | .normal => (0 : Byte) | .low => 1)]
  ++ Claims.two (match s.supply.lastSample with | some v => BitVec.ofNat 16 v | none => 0xFFFF) ++ Claims.four s.uptime

/-- The READ_CONFIG reply (R152, R187). -/
def Sys2Proof.Claims.configReply (c : ConfigItems) : List Byte :=
  Claims.four (BitVec.ofInt 32 c.movingLimit) ++ Claims.four (BitVec.ofInt 32 c.stoppedLimit)
  ++ Claims.four (BitVec.ofInt 32 c.referenceTemp) ++ Claims.four c.pattern ++ Claims.four c.mask
  ++ Claims.four (BitVec.ofInt 32 c.rssiFloor) ++ Claims.four (BitVec.ofInt 32 c.learnTimeout)
  ++ Claims.four (BitVec.ofInt 32 c.supplyThreshold)

/-- The LEARN_STATUS reply (R143, R185); the cursor is at a position, as SessionLaw says. -/
def Sys2Proof.Claims.learnReply (s : State) : List Byte :=
  let outcome : Byte := match s.learn.lastOutcome with
    | .none => 0 | .completed => 1 | .finishedEarly => 2 | .timedOut => 3 | .aborted => 4 | .cancelled => 5
  match s.learn.session with
  | none => [0, outcome]
  | some l =>
    [1, outcome, BitVec.ofNat 8 l.range.lo, BitVec.ofNat 8 l.range.hi, BitVec.ofNat 8 l.positions.length,
      BitVec.ofNat 8 l.cursor]
    ++ (match l.positions[l.cursor]? with
        | none => [0, 0, 0]
        | some p => [BitVec.ofNat 8 p.axle.val, BitVec.ofNat 8 p.slot.val,
            (match (s.axle p.axle).unit with | .truck => 0 | .trailer => 1)])
    ++ Claims.two (match s.supply.state with
        | .low => 0xFFFF
        | .normal => BitVec.ofNat 16 (max 0 (10 * s.config.learnTimeout - ((s.uptime - l.timerStart).toNat : Int))).toNat)
    ++ l.staging.flatMap fun e =>
        [BitVec.ofNat 8 e.1.axle.val, BitVec.ofNat 8 e.1.slot.val] ++ Claims.four (e.2.getD 0x00000000)

/-- The PROFILE_READ reply (R70, R187). -/
def Sys2Proof.Claims.profileReply (f : Profile) (g : Option Staging) : List Byte :=
  Claims.fields f ++ match g with
    | none => [0xFF, 0xFF]
    | some g => [BitVec.ofNat 8 g.profile.val, BitVec.ofNat 8 g.field.val] ++ Claims.fields g.copy

/-- One axle of the READ_AXLES reply (R182). -/
def Sys2Proof.Claims.axleReply (s : State) (a : Fin 10) : List Byte :=
  let r := s.axle a
  [BitVec.ofNat 8 a.val,
   BitVec.ofNat 8 ((if r.present then 1 else 0) + (match r.unit with | .truck => 0 | .trailer => 2)
    + (match r.kind with | .single => 0 | .dual => 4) + (if r.tipCritical then 8 else 0) + (if r.liftCapable then 16 else 0)
    + 32 * r.profile.val)]
  ++ (List.finRange 4).flatMap fun k => Claims.four ((s.slotId ⟨a, k⟩).getD 0x00000000)

def Obligations.ReadCommandsChangeOnlyTheReply : Prop :=
  ∀ (s : State) (q : PortId), Claims.Takes s q →
    exec (.readVehicle q) s = .next (s.answer q .ok (Claims.vehicleReply s))
    ∧ (s.loading = false →
      exec (.readConfig q) s = .next (s.answer q .ok (Claims.configReply s.config))
      ∧ exec (.learnStatus q) s = .next (s.answer q .ok (Claims.learnReply s))
      ∧ (∀ (pf : Byte) (f : Fin 4), pf.toNat = f.val →
          exec (.profileRead q pf) s = .next (s.answer q .ok (Claims.profileReply s.profiles[f] (s.port q).staging)))
      ∧ (∀ pf : Byte, 3 < pf.toNat → exec (.profileRead q pf) s = .next (s.answer q .range []))
      ∧ (∀ i : Byte, 63 < i.toNat → exec (.readAlerts q i) s = .next (s.answer q .range []))
      ∧ (∀ a n : Byte, a.toNat ≤ 9 → exec (.readAxles q a n) s = .next (s.answer q .ok
          ((match s.protect with
            | none => [0, 0, 0]
            | some r => [1, BitVec.ofNat 8 r.lo, BitVec.ofNat 8 r.hi])
          ++ ((List.finRange 10).filter fun b => decide (a.toNat ≤ b.val ∧ b.val ≤ a.toNat + n.toNat)).flatMap
              (Claims.axleReply s))))
      ∧ (∀ a n : Byte, 9 < a.toNat → exec (.readAxles q a n) s = .next (s.answer q .range []))
      ∧ (∀ a k na nk : Byte, a.toNat ≤ 9 → k.toNat ≤ 3 →
          let covered := allPos.filter fun p => decide (a.toNat ≤ p.axle.val ∧ p.axle.val ≤ a.toNat + na.toNat
            ∧ k.toNat ≤ p.slot.val ∧ p.slot.val ≤ k.toNat + nk.toNat)
          exec (.readWheels q a k na nk) s = .next (State.answer { s with freeIndex := s.freeIndex + 1 } q .ok
            ((covered.take 15).flatMap fun p => wheelBytes s.freeIndex p (s.wheel p))))
      ∧ (∀ a k na nk : Byte, (9 < a.toNat ∨ 3 < k.toNat) →
          exec (.readWheels q a k na nk) s = .next (s.answer q .range [])))

/-- The number of a wheel state, a pressure band and a temperature band on a port (R178). -/
def Sys2Proof.Claims.stateCode : WheelState → Nat
  | .empty => 0 | .awaiting => 1 | .live => 2 | .silent => 3 | .detached => 4
def Sys2Proof.Claims.bandCode : Band → Nat
  | .ok => 0 | .warnLow => 1 | .alarmLow => 2 | .highWarn => 3
def Sys2Proof.Claims.tempCode : TempBand → Nat
  | .ok => 0 | .hotWarn => 1 | .hotAlarm => 2

def Obligations.WheelRecordLayout : Prop :=
  ∀ (n : Nat) (p : Pos) (r : WheelRecord), PendingLaw r.pending → r.leakCount ≤ 2 →
    (∀ c, r.pCold = some c → 0 ≤ c ∧ c ≤ 18340) → (∀ h, r.heldTemp = some h → -50 ≤ h ∧ h ≤ 204) →
    ∃ b0 b1 b2 b3 b4 b5 b6 b7 b8 b9 b10 b11 b12 b13 b14 b15 : Byte,
      wheelBytes n p r = [b0, b1, b2, b3, b4, b5, b6, b7, b8, b9, b10, b11, b12, b13, b14, b15]
      ∧ (b0.extractLsb' 0 3).toNat = Claims.stateCode r.state
      ∧ b0.getLsbD 3 = r.stale ∧ b0.getLsbD 4 = r.overRange ∧ b0.getLsbD 5 = r.batteryLow
      ∧ b0.getLsbD 6 = r.pressureCode.isSome
      ∧ (∀ c, r.pressureCode = some c → b0.getLsbD 7 = c.getLsbD 8 ∧ b6 = c.setWidth 8)
      ∧ (∀ c, r.tempCode = some c → b7 = c)
      ∧ (b1.extractLsb' 0 2).toNat = Claims.bandCode r.band ∧ (b1.extractLsb' 2 2).toNat = Claims.tempCode r.tempBand
      ∧ (b1.extractLsb' 4 2).toNat = r.pending.count ∧ (b1.extractLsb' 6 2).toNat = r.leakCount
      ∧ (∀ c, r.pCold = some c → ((b2 ++ b3 : BitVec 16).toNat : Int) = c)
      ∧ (r.pCold = none → b2 ++ b3 = (0xFFFF : BitVec 16))
      ∧ (∀ (i : Nat) (k : Condition), Condition.all[i]? = some k → (b4 ++ b5 : BitVec 16).getLsbD i = r.conditions.has k)
      ∧ (∀ x, r.lastSequence = some x → (b4 ++ b5 : BitVec 16).extractLsb' 10 4 = x)
      ∧ (b4 ++ b5 : BitVec 16).getLsbD 14 = r.lastSequence.isSome ∧ (b4 ++ b5 : BitVec 16).getLsbD 15 = false
      ∧ (∀ h, r.heldTemp = some h → (b8.toNat : Int) = h + 50) ∧ (r.heldTemp = none → b8 = 0xFF)
      ∧ b9 = r.faultCode.getD 0
      ∧ b10 = (match r.rssi0 with | some v => BitVec.ofInt 8 v | none => 0)
      ∧ b11 = (match r.rssi1 with | some v => BitVec.ofInt 8 v | none => 0)
      ∧ (∀ v, r.leakRate = some v → (b12 ++ b13 : BitVec 16).toInt = Claims.nearest (-32767) 32767 v)
      ∧ (r.leakRate = none → b12 ++ b13 = (0x8000 : BitVec 16))
      ∧ (b14.extractLsb' 4 4).toNat = p.axle.val ∧ (b14.extractLsb' 2 2) = 0 ∧ (b14.extractLsb' 0 2).toNat = p.slot.val
      ∧ (b15.extractLsb' 0 2).toNat = (match r.pending.direction with | none => 0 | some .low => 1 | some .high => 2)
      ∧ (b15.extractLsb' 2 2).toNat = (match r.pending.floor with | none => 0 | some z => Claims.bandCode z)
      ∧ b15.extractLsb' 4 4 = 0

def Obligations.PermitStoreAndAlertReplyLayouts : Prop :=
  ∀ (s : State) (q : PortId), Claims.Takes s q →
    (s.loading = false → exec (.readPermit q) s = .next (s.answer q .ok
      ([BitVec.ofNat 8 ((if s.permit.verdict = .granted then 1 else 0) + (if s.permit.basis = .evaluated then 2 else 0)
          + (if s.permit.latched then 4 else 0) + (if s.permit.more then 8 else 0)),
        BitVec.ofNat 8 s.permit.reasons.length]
      ++ s.permit.reasons.flatMap fun r =>
        [(match r.axle with | some a => BitVec.ofNat 8 a.val | none => 0xFF),
         (match r.slot with | some k => BitVec.ofNat 8 k.val | none => 0x04),
         (match r.cause with
          | .noCriticalAxle => 0 | .noSensor => 1 | .notLive => 2 | .lowAlarm => 3 | .leak => 4 | .imbalance => 5
          | .sideBalance => 6)])))
    ∧ (∃ b0 b1 : Byte,
        b0 = (match s.store.state with | .loading => 0 | .idle => 1 | .pending => 2 | .writing _ => 3)
        ∧ b1 = (match s.store.lastWrite with | .none => 0 | .ok => 1 | .fault => 2)
        ∧ (s.loading = true → exec (.storeStatus q) s = .next (s.answer q .ok [b0, b1]))
        ∧ (s.loading = false → exec (.storeStatus q) s = .next (s.answer q .ok
            ([b0, b1, BitVec.ofNat 8 ((if s.store.imageValid then 1 else 0) + (if s.store.storedGeneration.isSome then 2 else 0)
                + (if s.store.storedGeneration = some s.generation then 0 else 4))]
              ++ Claims.two (s.store.storedGeneration.getD 0)))))
    ∧ (∀ i : Byte, s.loading = false → i.toNat ≤ 63 → exec (.readAlerts q i) s = .next (s.answer q .ok
        ([BitVec.ofNat 8 s.alerts.entries.length, if s.alerts.marker then 1 else 0]
          ++ Claims.two (BitVec.ofNat 16 s.alerts.overflow.length)
          ++ ((s.alerts.entries.drop i.toNat).take 16).flatMap fun e =>
            [BitVec.ofNat 8 e.pos.axle.val, BitVec.ofNat 8 e.pos.slot.val, BitVec.ofNat 8 (Condition.all.idxOf e.kind),
             BitVec.ofNat 8 ((if e.unackA then 1 else 0) + (if e.unackB then 2 else 0))] ++ Claims.four e.raisedAt)))

/-! ## Receive path -/

/-- The sync word 6B94h as bits, most significant first. -/
def Sys2Proof.Claims.sync : List Bool :=
  [false, true, true, false, true, false, true, true, true, false, false, true, false, true, false, false]

/-- The last 16 of a sequence of bits. -/
def Sys2Proof.Claims.lastSixteen (bits : List Bool) : List Bool := bits.drop (bits.length - 16)

def Obligations.ReceiverFindsTheSyncWord : Prop :=
  ∀ (s : State) (ch : Channel) (bits beyond : List Bool) (level : Int),
    exec (.lineCodingViolation ch) s = .next (s.setReceiver ch (.hunt []))
    ∧ (∀ rssi sofar, s.receiver ch = .collect rssi sofar → exec (.syncDetected ch bits level) s = .next s)
    ∧ ∀ history, s.receiver ch = .hunt history →
        exec (.syncDetected ch [] level) s = .next s
        ∧ (bits ≠ [] →
          (∀ k, 0 < k → k < bits.length → Claims.lastSixteen (history ++ bits.take k) ≠ Claims.sync) →
          (Claims.lastSixteen (history ++ bits) = Claims.sync →
            exec (.syncDetected ch (bits ++ beyond) level) s
              = .next (s.setReceiver ch (.collect (Claims.nearest (-120) (-20) level) [])))
          ∧ (Claims.lastSixteen (history ++ bits) ≠ Claims.sync →
            exec (.syncDetected ch bits level) s = .next (s.setReceiver ch (.hunt (Claims.lastSixteen (history ++ bits))))))

/-- One data bit into the CRC-8 register (R32): shifted left, and combined with 2Fh when the bit and the register's most
significant bit differ. -/
def Sys2Proof.Claims.crc8Bit (reg : Byte) (bit : Bool) : Byte :=
  if bit = reg.getLsbD 7 then reg <<< 1 else (reg <<< 1) ^^^ 0x2F

/-- The CRC-8 of bytes, the register preset to FFh (R32). -/
def Sys2Proof.Claims.crc8 (bytes : List Byte) : Byte := (Claims.bits bytes).foldl Claims.crc8Bit 0xFF

/-- The fields of a telegram at the bits of its bytes 0 to 6 (R179). -/
def Sys2Proof.Claims.telegramOf (b0 b1 b2 b3 b4 b5 b6 : Byte) : Telegram where
  id := (b0 ++ b1 ++ b2 ++ b3 : BitVec 32)
  kind := match (b4.extractLsb' 6 2).toNat with | 0 => .periodic | 1 => .learn | 2 => .alert | _ => .fault
  sequence := b4.extractLsb' 2 4
  batteryLow := b4.getLsbD 1
  pressureCode := (b4.extractLsb' 0 1 ++ b5 : BitVec 9)
  tempCode := b6

/-- The filter passes a telegram (R36, R37). -/
def Sys2Proof.Claims.Passes (s : State) (t : Telegram) : Prop :=
  s.loading = false ∧ t.id ≠ 0x00000000 ∧ t.id ≠ 0xFFFFFFFF
    ∧ ((∃ p, s.slotId p = some t.id)
      ∨ ((∃ l, s.learn.session = some l) ∧ t.kind = .learn
        ∧ ∀ i, i < 32 → s.config.mask.getLsbD i = false → t.id.getLsbD i = s.config.pattern.getLsbD i))

def Obligations.CompletedTelegramIsFilteredAndQueued : Prop :=
  (∀ (s : State) (ch : Channel) (rssi : Int) (sofar bits beyond : List Bool) (b0 b1 b2 b3 b4 b5 b6 b7 : Byte),
    s.receiver ch = .collect rssi sofar → bits ≠ [] → sofar ++ bits = Claims.bits [b0, b1, b2, b3, b4, b5, b6, b7] →
    let t := s.setReceiver ch (.hunt [])
    let w := Claims.telegramOf b0 b1 b2 b3 b4 b5 b6
    let good := b7 = Claims.crc8 [b0, b1, b2, b3, b4, b5, b6]
    let answer := exec (.telegramCompletion ch (bits ++ beyond)) s
    (¬ good ∨ s.supply.state = .low ∨ ¬ Claims.Passes s w → answer = .next t)
    ∧ (good → s.supply.state = .normal → Claims.Passes s w →
      (s.queue.length < 32 →
        answer = .next { t with queue := s.queue ++ [⟨ch, rssi, s.uptime, w, s.lostPending⟩], lostPending := false })
      ∧ (32 ≤ s.queue.length → answer = .next (State.setFlagBoth { t with lostPending := true } .queueLost))))
  ∧ (∀ (s : State) (ch : Channel) (rssi : Int) (sofar bits : List Bool), s.receiver ch = .collect rssi sofar →
    sofar.length + bits.length < 64 →
    exec (.telegramCompletion ch bits) s = .next (s.setReceiver ch (.collect rssi (sofar ++ bits))))
  ∧ ∀ (s : State) (ch : Channel) (history bits : List Bool), s.receiver ch = .hunt history →
    exec (.telegramCompletion ch bits) s = .next s

def Obligations.TelegramRoundTrip : Prop :=
  (∀ b0 b1 b2 b3 b4 b5 b6 b7 : Byte,
    decodeTelegram (Claims.bits [b0, b1, b2, b3, b4, b5, b6, b7]) = Claims.telegramOf b0 b1 b2 b3 b4 b5 b6
    ∧ (crcGood (Claims.bits [b0, b1, b2, b3, b4, b5, b6, b7]) = true ↔ b7 = Claims.crc8 [b0, b1, b2, b3, b4, b5, b6]))
  ∧ ∀ t : Telegram, (encodeTelegram t).length = 64 ∧ crcGood (encodeTelegram t) = true
    ∧ decodeTelegram (encodeTelegram t) = t
    ∧ ∃ b0 b1 b2 b3 b4 b5 b6 : Byte, Claims.telegramOf b0 b1 b2 b3 b4 b5 b6 = t
      ∧ encodeTelegram t
        = Claims.bits [b0, b1, b2, b3, b4, b5, b6, Claims.crc8 [b0, b1, b2, b3, b4, b5, b6]]

def Obligations.TelegramSentWholeReachesTheQueue : Prop :=
  ∀ (s : State) (ch : Channel) (level : Int) (w : Telegram), s.receiver ch = .hunt [] → s.supply.state = .normal →
    s.queue.length < 32 → Claims.Passes s w →
    ∃ t, exec (.syncDetected ch Claims.sync level) s = .next t
      ∧ exec (.telegramCompletion ch (encodeTelegram w)) t
        = .next { s with
          queue := s.queue ++ [⟨ch, Claims.nearest (-120) (-20) level, s.uptime, w, s.lostPending⟩]
          lostPending := false }

/-! ## What a taking judges -/

/-- The condition that mirrors a pressure band (R87). -/
def Sys2Proof.Claims.bandCondition : Band → Option Condition
  | .alarmLow => some .lowAlarm | .warnLow => some .lowWarn | .ok => none | .highWarn => some .highWarn

/-- The condition that mirrors a temperature band (R88). -/
def Sys2Proof.Claims.tempCondition : TempBand → Option Condition
  | .ok => none | .hotWarn => some .hotWarn | .hotAlarm => some .hotAlarm

/-- One condition cleared, then one raised, where there is one (R87, R88). -/
def Sys2Proof.Claims.exchange (old new : Option Condition) (c : Conditions) : Conditions :=
  let c := match old with | some k => c.put k false | none => c
  match new with | some k => c.put k true | none => c

/-- The conditions after a pressure band has become the bands of a list in turn (R87). -/
def Sys2Proof.Claims.bandMoves : Band → List Band → Conditions → Conditions
  | _, [], c => c
  | b, z :: rest, c =>
    Claims.bandMoves z rest (Claims.exchange (Claims.bandCondition b) (Claims.bandCondition z) c)

/-- The rank of a temperature band (R88). -/
def Sys2Proof.Claims.tempRank : TempBand → Nat
  | .ok => 0 | .hotWarn => 1 | .hotAlarm => 2

/-- The temperature band after a temperature code under a profile (R88). -/
def Sys2Proof.Claims.tempAfter (f : Profile) (b : TempBand) (tc : BitVec 8) : TempBand :=
  let t : Int := (tc.toNat : Int) - 50
  let m : TempBand := if f[9] ≤ t then .hotAlarm else if f[8] ≤ t then .hotWarn else .ok
  let level : Int := match b with | .hotAlarm => f[9] | _ => f[8]
  if tc.toNat = 255 then b
  else if Claims.tempRank b < Claims.tempRank m then m
  else if Claims.tempRank m < Claims.tempRank b ∧ t < level - 5 then m
  else b

/-- The leak fields and LEAK of a record after a leak step (R89, R90), from those before it. -/
def Sys2Proof.Claims.LeakJudged (limit : Int) (alert : Bool) (cold : Int) (arrival : Uptime) (before after : WheelRecord) : Prop :=
  (before.leakRef = none → after.leakRef = some (cold, arrival) ∧ after.leakRate = before.leakRate
    ∧ after.leakCount = before.leakCount ∧ after.conditions.leak = before.conditions.leak)
  ∧ ∀ old since, before.leakRef = some (old, since) →
    ((arrival - since).toNat < 300 → after.leakRef = before.leakRef ∧ after.leakRate = before.leakRate
      ∧ after.leakCount = before.leakCount ∧ after.conditions.leak = before.conditions.leak)
    ∧ (300 ≤ (arrival - since).toNat →
      let rate := ((old - cold) * 600).tdiv ((arrival - since).toNat : Int)
      after.leakRate = some rate
      ∧ after.leakRef = (if 3000 ≤ (arrival - since).toNat then some (cold, arrival) else some (old, since))
      ∧ (limit ≤ rate → after.leakCount = (if alert then 2 else min 2 (before.leakCount + 1))
          ∧ after.conditions.leak = if after.leakCount = 2 then true else before.conditions.leak)
      ∧ (rate < limit → rate < limit.tdiv 2 → after.leakCount = 0 ∧ after.conditions.leak = false)
      ∧ (rate < limit → limit.tdiv 2 ≤ rate → after.leakCount = before.leakCount
          ∧ after.conditions.leak = before.conditions.leak))

/-- IMBALANCE after the check of a position's pair (R91), under the levels and pressures of t; s holds it before. -/
def Sys2Proof.Claims.PairJudged (s t : State) (p : Pos) : Prop :=
  let limit := (t.levelsOf p.axle).imbalance
  let release := limit - (t.levelsOf p.axle).hysteresis
  (∀ p', p' ≠ p.pairLow → p' ≠ p.pairHigh → t.active p' .imbalance = s.active p' .imbalance)
  ∧ ((t.axle p.axle).kind = .single ∨ (∀ c, ¬ Claims.LiveAt t p.pairLow c) ∨ (∀ c, ¬ Claims.LiveAt t p.pairHigh c) →
      ∀ p', t.active p' .imbalance = s.active p' .imbalance)
  ∧ ∀ x y, (t.axle p.axle).kind = .dual → Claims.LiveAt t p.pairLow x → Claims.LiveAt t p.pairHigh y →
      (limit < |x - y| → t.active p.pairLow .imbalance = true ∧ t.active p.pairHigh .imbalance = true)
      ∧ (|x - y| ≤ limit → |x - y| ≤ release → t.active p.pairLow .imbalance = false ∧ t.active p.pairHigh .imbalance = false)
      ∧ (|x - y| ≤ limit → release < |x - y| → ∀ p', t.active p' .imbalance = s.active p' .imbalance)

/-! ## Taking an entry -/

def Obligations.TakingFreesTheHeadPlace : Prop :=
  ∀ (s : State) (e : QueueEntry) (rest : List QueueEntry), s.queue = e :: rest →
    ∃ t, exec .entryTaken s = .next t ∧ t.queue = rest
      ∧ t.pending = s.pending ∧ t.rx0 = s.rx0 ∧ t.rx1 = s.rx1 ∧ t.lostPending = s.lostPending ∧ t.axles = s.axles
      ∧ t.protect = s.protect ∧ t.profiles = s.profiles ∧ t.vehicle = s.vehicle ∧ t.config = s.config
      ∧ t.supply = s.supply ∧ t.uptime = s.uptime ∧ t.store = s.store ∧ t.nonvolatile = s.nonvolatile
      ∧ t.freeIndex = s.freeIndex
      ∧ (∀ q, (t.port q).reply = (s.port q).reply ∧ (t.port q).mask = (s.port q).mask
          ∧ (t.port q).staging = (s.port q).staging ∧ (t.port q).selected = (s.port q).selected
          ∧ (t.port q).cut = (s.port q).cut)
      ∧ (Claims.NotHandedOver s e → JudgedFrom t { s with queue := rest })
      ∧ (e.lost = true → exec .entryTaken
          { s with
            queue := { e with lost := false } :: rest
            wheels := s.wheels.map fun r => { r with pending := ⟨none, 0, none⟩, leakCount := 0 } } = .next t)

def Obligations.EntriesThatAreNoReadings : Prop :=
  (∀ (s : State) (e : QueueEntry) (rest : List QueueEntry), s.queue = e :: rest →
    (∀ p, s.slotId p ≠ some e.telegram.id) → Claims.NotHandedOver s e →
    exec .entryTaken s = .next { s with
      queue := rest
      wheels := if e.lost then s.wheels.map fun r => { r with pending := ⟨none, 0, none⟩, leakCount := 0 } else s.wheels })
  ∧ (∀ (s : State) (e : QueueEntry) (rest : List QueueEntry) (p : Pos), s.queue = e :: rest → e.lost = false →
    s.lookup e.telegram.id = some p → Claims.NotHandedOver s e →
    ((((s.wheel p).state = .awaiting ∨ (s.wheel p).state = .live) ∧ Claims.IsRepeat (s.wheel p) e)
      ∨ (s.wheel p).state = .detached) →
    exec .entryTaken s = .next (State.setWheel { s with queue := rest } p
      (match e.channel with
        | .rx0 => { s.wheel p with rssi0 := some e.rssi }
        | .rx1 => { s.wheel p with rssi1 := some e.rssi })))
  ∧ ∀ s : State, s.queue = [] → exec .entryTaken s = .next s

def Obligations.FaultEntryRaisesSensorFault : Prop :=
  ∀ (s : State) (e : QueueEntry) (rest : List QueueEntry) (p : Pos), s.queue = e :: rest → e.lost = false →
    s.lookup e.telegram.id = some p → e.telegram.kind = .fault → Claims.Accepts (s.wheel p) e →
    ∃ t, exec .entryTaken s = .next t ∧ JudgedFrom t { s with queue := rest }
      ∧ (∀ p', p' ≠ p → t.wheel p' = s.wheel p')
      ∧ t.wheel p = { Claims.acceptedRssi (s.wheel p) e with
          state := .live
          stale := false
          lastSequence := some e.telegram.sequence
          lastAccept := some e.arrival
          silenceRef := some s.uptime
          faultCode := if e.telegram.tempCode = 0 ∨ e.telegram.tempCode = 255 then none else some e.telegram.tempCode
          conditions :=
            if (s.wheel p).state = .silent then ((s.wheel p).conditions.put .sensorFault true).put .silent false
            else (s.wheel p).conditions.put .sensorFault true }

def Obligations.ReadingUpdatesTheRecord : Prop :=
  ∀ (s : State) (e : QueueEntry) (rest : List QueueEntry) (p : Pos), s.queue = e :: rest → e.lost = false →
    s.lookup e.telegram.id = some p → e.telegram.kind ≠ .fault → Claims.NotHandedOver s e → Claims.Accepts (s.wheel p) e →
    let w := e.telegram
    let unusable := w.pressureCode.toNat = 511 ∧ w.tempCode.toNat = 255
    let f := s.profiles[(s.axle p.axle).profile]
    let taken := bandStep (f.levels s.vehicle.load) (some (if w.kind = .alert then 1 else 2)) (s.wheel p).band
      (s.wheel p).pending (Claims.cold s (s.wheel p) w)
    let hot := Claims.tempAfter f (s.wheel p).tempBand w.tempCode
    ∃ t, exec .entryTaken s = .next t ∧ JudgedFrom t { s with queue := rest }
      ∧ (∀ p', p'.axle ≠ p.axle → t.wheel p' = s.wheel p')
      ∧ (∀ p', p' ≠ p → Claims.UpToImbalance (t.wheel p') (s.wheel p'))
      ∧ (t.wheel p).state = .live ∧ (t.wheel p).stale = false
      ∧ (t.wheel p).lastSequence = some w.sequence ∧ (t.wheel p).lastAccept = some e.arrival
      ∧ (t.wheel p).silenceRef = some s.uptime
      ∧ (t.wheel p).pressureCode = some w.pressureCode ∧ (t.wheel p).tempCode = some w.tempCode
      ∧ (t.wheel p).overRange = decide (w.pressureCode.toNat = 511)
      ∧ (t.wheel p).heldTemp = (if w.tempCode.toNat = 255 then (s.wheel p).heldTemp else some ((w.tempCode.toNat : Int) - 50))
      ∧ (t.wheel p).pCold = some (Claims.cold s (s.wheel p) w)
      ∧ (t.wheel p).rssi0 = (Claims.acceptedRssi (s.wheel p) e).rssi0
      ∧ (t.wheel p).rssi1 = (Claims.acceptedRssi (s.wheel p) e).rssi1
      ∧ (t.wheel p).band = taken.1.getLast?.getD (s.wheel p).band ∧ (t.wheel p).pending = taken.2
      ∧ (∀ k, k = .lowWarn ∨ k = .lowAlarm ∨ k = .highWarn →
          t.active p k = (Claims.bandMoves (s.wheel p).band taken.1 (s.wheel p).conditions).has k)
      ∧ (t.wheel p).tempBand = hot
      ∧ (∀ k, k = .hotWarn ∨ k = .hotAlarm → t.active p k
          = if hot = (s.wheel p).tempBand then s.active p k
            else (Claims.exchange (Claims.tempCondition (s.wheel p).tempBand) (Claims.tempCondition hot)
              (s.wheel p).conditions).has k)
      ∧ Claims.LeakJudged f[7] (w.kind == .alert) (Claims.cold s (s.wheel p) w) e.arrival (s.wheel p) (t.wheel p)
      ∧ Claims.PairJudged s t p
      ∧ (t.wheel p).batteryLow = w.batteryLow ∧ t.active p .batteryLow = w.batteryLow
      ∧ ((s.wheel p).state = .silent → t.active p .silent = false)
      ∧ ((s.wheel p).state ≠ .silent → t.active p .silent = s.active p .silent)
      ∧ (unusable → t.active p .sensorFault = s.active p .sensorFault ∧ (t.wheel p).faultCode = (s.wheel p).faultCode)
      ∧ (¬ unusable → t.active p .sensorFault = false
          ∧ (t.wheel p).faultCode = if s.active p .sensorFault = true then none else (s.wheel p).faultCode)

/-! ## Cold-equivalent pressure and levels -/

def Obligations.ColdPressureIsRoundedAndBounded : Prop :=
  (∀ pAbs tRef tUsed : Int, 500 ≤ pAbs → pAbs ≤ 13850 → 253 ≤ tRef → tRef ≤ 313 → 223 ≤ tUsed → tUsed ≤ 477 →
    let c := scaledAbsolute pAbs tRef tUsed
    c = (2 * pAbs * tRef + tUsed) / (2 * tUsed)
    ∧ (∀ q r : Int, pAbs * tRef = q * tUsed + r → 0 ≤ r → r < tUsed →
        (2 * r < tUsed → c = q) ∧ (tUsed ≤ 2 * r → c = q + 1) ∧ (2 * r = tUsed → tUsed % 2 = 0))
    ∧ 265 ≤ c ∧ c ≤ 19440)
  ∧ ∀ gauge ambient used reference : Int, 0 ≤ gauge → gauge ≤ 12750 → 500 ≤ ambient → ambient ≤ 1100 → -50 ≤ used →
    used ≤ 204 → -20 ≤ reference → reference ≤ 40 →
    let c := coldPressure gauge ambient used reference
    0 ≤ c ∧ c ≤ 18340 ∧ (reference ≤ used → c ≤ gauge) ∧ (used ≤ reference → gauge ≤ c) ∧ (used = reference → c = gauge)

/-- A committed profile (R60, R65): every field in its range, and the three checks passed. -/
def Sys2Proof.Claims.Committed (f : Profile) : Prop :=
  (∀ i : Fin 11, (Claims.fieldRanges[i]).1 ≤ f[i] ∧ f[i] ≤ (Claims.fieldRanges[i]).2)
    ∧ f[2] < f[3] ∧ f[8] < f[9] ∧ f[5] < f[2]

def Obligations.LevelsOfAProfile : Prop :=
  ∀ (f : Profile) (load : LoadState), Claims.Committed f →
    let t : Int := match load with | .unladen => f[0] | .laden => f[1]
    let l := f.levels load
    l.lowWarn = t * (1000 - f[2]) / 1000 ∧ l.lowAlarm = t * (1000 - f[3]) / 1000 ∧ l.highWarn = t * (1000 + f[4]) / 1000
    ∧ l.hysteresis = t * f[5] / 1000 ∧ l.imbalance = t * f[6] / 1000 ∧ l.side = t * f[10] / 1000
    ∧ l.lowAlarmRelease = l.lowAlarm + l.hysteresis ∧ l.lowWarnRelease = l.lowWarn + l.hysteresis
    ∧ l.highWarnRelease = l.highWarn - l.hysteresis ∧ l.imbalanceRelease = l.imbalance - l.hysteresis
    ∧ (1200 ≤ l.lowWarn ∧ l.lowWarn ≤ 11400) ∧ (800 ≤ l.lowAlarm ∧ l.lowAlarm ≤ 11280)
    ∧ (2100 ≤ l.highWarn ∧ l.highWarn ≤ 16800) ∧ (10 ≤ l.hysteresis ∧ l.hysteresis ≤ 1200)
    ∧ (40 ≤ l.imbalance ∧ l.imbalance ≤ 3600) ∧ (40 ≤ l.side ∧ l.side ≤ 3600)
    ∧ (0 ≤ l.lowAlarmRelease ∧ l.lowAlarmRelease ≤ 18340) ∧ (0 ≤ l.lowWarnRelease ∧ l.lowWarnRelease ≤ 18340)
    ∧ (0 ≤ l.highWarnRelease ∧ l.highWarnRelease ≤ 18340)

def Obligations.LevelRelations : Prop :=
  (∀ (f : Profile) (load : LoadState), Claims.Committed f →
    let t : Int := match load with | .unladen => f[0] | .laden => f[1]
    let l := f.levels load
    l.lowAlarm + 1 ≤ l.lowWarn ∧ l.lowWarn ≤ t - 100 ∧ t + 100 ≤ l.highWarn ∧ l.lowAlarmRelease < l.lowWarnRelease
    ∧ l.lowWarnRelease ≤ t - 1 ∧ 10 ≤ l.hysteresis)
  ∧ (∃ f : Profile, Claims.Committed f ∧ (f.levels .unladen).lowWarn < (f.levels .unladen).lowAlarmRelease)
  ∧ (∃ f : Profile, Claims.Committed f ∧ (f.levels .unladen).highWarnRelease ≤ f[0])
  ∧ ∃ f : Profile, Claims.Committed f ∧ (f.levels .unladen).imbalanceRelease < 0

/-! ## Bands, leak, imbalance, silence -/

/-- A zone (R83) by its three tests, in order. -/
def Sys2Proof.Claims.zone (alarm warn high p : Int) : Band :=
  if p < alarm then .alarmLow else if p < warn then .warnLow else if high < p then .highWarn else .ok

/-- The rank of a zone or band (R83). -/
def Sys2Proof.Claims.rank : Band → Int
  | .alarmLow => -2 | .warnLow => -1 | .ok => 0 | .highWarn => 1

/-- A zone lies on the side of OK that a direction names (R83). -/
def Sys2Proof.Claims.sideOf : Band → Option Side
  | .alarmLow => some .low | .warnLow => some .low | .ok => none | .highWarn => some .high

/-- Whichever of two zones lies nearer OK by rank (R86). -/
def Sys2Proof.Claims.nearer (x y : Band) : Band := if (Claims.rank x).natAbs ≤ (Claims.rank y).natAbs then x else y

def Obligations.PressureBandStep : Prop :=
  ∀ (l : Levels) (b : Band) (q : Pending) (p : Int) (n : Nat), PendingLaw q → (n = 1 ∨ n = 2) →
    let z := Claims.zone l.lowAlarm l.lowWarn l.highWarn p
    let zh := Claims.zone (l.lowAlarm + l.hysteresis) (l.lowWarn + l.hysteresis) (l.highWarn - l.hysteresis) p
    let improves := b ≠ .ok ∧ (zh = .ok ∨ (Claims.rank b < Claims.rank zh ∧ Claims.rank zh < 0)
      ∨ (0 < Claims.rank zh ∧ Claims.rank zh < Claims.rank b))
    let crosses := b ≠ .ok ∧ zh ≠ .ok ∧ Claims.sideOf zh ≠ Claims.sideOf b
    let away := z ≠ .ok ∧ (b = .ok
      ∨ (Claims.sideOf z = Claims.sideOf b ∧ (Claims.rank b).natAbs < (Claims.rank z).natAbs))
    (z = b → bandStep l (some n) b q p = ([], ⟨none, 0, none⟩) ∧ bandStep l none b q p = ([], ⟨none, 0, none⟩))
    ∧ (z ≠ b → improves →
        bandStep l (some n) b q p = ([zh], ⟨none, 0, none⟩) ∧ bandStep l none b q p = ([zh], ⟨none, 0, none⟩))
    ∧ (z ≠ b → ¬ improves → crosses → z = .ok →
        bandStep l (some n) b q p = ([.ok], ⟨none, 0, none⟩) ∧ bandStep l none b q p = ([.ok], ⟨none, 0, none⟩))
    ∧ (z ≠ b → ¬ improves → crosses → z ≠ .ok →
        bandStep l (some 1) b q p = ([.ok, z], ⟨none, 0, none⟩)
        ∧ bandStep l (some 2) b q p = ([.ok], ⟨Claims.sideOf z, 1, some z⟩)
        ∧ bandStep l none b q p = ([.ok, z], ⟨none, 0, none⟩))
    ∧ (z ≠ b → ¬ improves → ¬ crosses → away →
        bandStep l none b q p = ([z], ⟨none, 0, none⟩)
        ∧ (∀ f, q = ⟨Claims.sideOf z, 1, some f⟩ →
            bandStep l (some n) b q p = ([Claims.nearer f z], ⟨none, 0, none⟩))
        ∧ (q.direction ≠ Claims.sideOf z →
            bandStep l (some 1) b q p = ([z], ⟨none, 0, none⟩)
            ∧ bandStep l (some 2) b q p = ([], ⟨Claims.sideOf z, 1, some z⟩)))
    ∧ (z ≠ b → ¬ improves → ¬ crosses → ¬ away →
        bandStep l (some n) b q p = ([], ⟨none, 0, none⟩) ∧ bandStep l none b q p = ([], ⟨none, 0, none⟩))

def Obligations.TemperatureBandStep : Prop :=
  ∀ (s : State) (p : Pos) (tc : BitVec 8),
    let b := (s.wheel p).tempBand
    let after := Claims.tempAfter s.profiles[(s.axle p.axle).profile] b tc
    let u := s.judgeTemp p tc
    JudgedFrom u s ∧ u.permit = s.permit ∧ (∀ p', p' ≠ p → u.wheel p' = s.wheel p') ∧ (after = b → u = s)
    ∧ (after ≠ b → u.wheel p = { s.wheel p with
        tempBand := after
        conditions := Claims.exchange (Claims.tempCondition b) (Claims.tempCondition after) (s.wheel p).conditions })

def Obligations.LeakRateIsJudged : Prop :=
  ∀ (s : State) (p : Pos) (alert : Bool) (cold : Int) (arrival : Uptime),
    let r := s.wheel p
    let u := s.leakStep p alert cold arrival
    JudgedFrom u s ∧ u.permit = s.permit ∧ (∀ p', p' ≠ p → u.wheel p' = s.wheel p')
    ∧ Claims.LeakJudged (s.profiles[(s.axle p.axle).profile])[7] alert cold arrival r (u.wheel p)
    ∧ (∃ reference rate count leak, u.wheel p = { r with
        leakRef := reference, leakRate := rate, leakCount := count, conditions := r.conditions.put .leak leak })
    ∧ (r.leakRef = none → u = s.setWheel p { r with leakRef := some (cold, arrival) })
    ∧ ∀ old since, r.leakRef = some (old, since) → (arrival - since).toNat < 300 → u = s

def Obligations.DualPairIsCompared : Prop :=
  ∀ (s : State) (p : Pos),
    let u := s.checkPair p
    let limit := (s.levelsOf p.axle).imbalance
    let release := limit - (s.levelsOf p.axle).hysteresis
    JudgedFrom u s ∧ u.permit = s.permit ∧ (∀ p', Claims.UpToImbalance (u.wheel p') (s.wheel p'))
    ∧ (∀ p', p' ≠ p.pairLow → p' ≠ p.pairHigh → u.wheel p' = s.wheel p')
    ∧ ((s.axle p.axle).kind = .single → u = s)
    ∧ ((∀ c, ¬ ((s.wheel p.pairLow).state = .live ∧ (s.wheel p.pairLow).pCold = some c)) → u = s)
    ∧ ((∀ c, ¬ ((s.wheel p.pairHigh).state = .live ∧ (s.wheel p.pairHigh).pCold = some c)) → u = s)
    ∧ ∀ x y, (s.axle p.axle).kind = .dual → (s.wheel p.pairLow).state = .live → (s.wheel p.pairHigh).state = .live →
        (s.wheel p.pairLow).pCold = some x → (s.wheel p.pairHigh).pCold = some y →
        (limit < |x - y| → u.active p.pairLow .imbalance = true ∧ u.active p.pairHigh .imbalance = true)
        ∧ (|x - y| ≤ limit → |x - y| ≤ release →
            u.active p.pairLow .imbalance = false ∧ u.active p.pairHigh .imbalance = false)
        ∧ (|x - y| ≤ limit → release < |x - y| → u = s)

def Obligations.SilenceExpiryIsTakenWhenDue : Prop :=
  ∀ (s : State) (a : Fin 10) (k : Fin 4),
    let p : Pos := ⟨a, k⟩
    (¬ Claims.Due s p → exec (.silenceExpiry a k) s = .next s)
    ∧ (Claims.Due s p → ∃ t, exec (.silenceExpiry a k) s = .next t ∧ JudgedFrom t s ∧ Claims.Flagged t .wheel
      ∧ (t.wheel p) = { s.wheel p with
          state := .silent
          stale := (s.wheel p).pCold.isSome
          conditions :=
            if (s.axle a).kind = .dual then ((s.wheel p).conditions.put .silent true).put .imbalance false
            else (s.wheel p).conditions.put .silent true }
      ∧ (∀ p', p' ≠ p → p' ≠ p.pairLow → p' ≠ p.pairHigh → t.wheel p' = s.wheel p')
      ∧ (∀ p', p' ≠ p → p' = p.pairLow ∨ p' = p.pairHigh → t.wheel p' =
          if (s.axle a).kind = .dual then { s.wheel p' with conditions := (s.wheel p').conditions.put .imbalance false }
          else s.wheel p'))

/-! ## Alert list -/

def Obligations.RaisingsAndClearingsReachTheAlertList : Prop :=
  ∀ (s : State) (p : Pos) (k : Condition),
    let b := s.alerts
    let new : AlertEntry := ⟨p, k, s.uptime, true, true⟩
    (s.active p k = true → s.raiseCond p k = s) ∧ (s.active p k = false → s.clearCond p k = s)
    ∧ (s.active p k = false →
      let t := s.raiseCond p k
      JudgedFrom t s ∧ t.active p k = true ∧ Claims.Flagged t .alertRaised
      ∧ (b.entries.length < 64 → t.alerts = { b with entries := b.entries ++ [new] })
      ∧ (∀ before e after, 64 ≤ b.entries.length → b.entries = before ++ e :: after →
          (∀ x ∈ before, x.unackA = true ∨ x.unackB = true) → e.unackA = false → e.unackB = false →
          t.alerts = ⟨before ++ after ++ [new], b.overflow, if b.overflow = [] then false else b.marker⟩)
      ∧ (64 ≤ b.entries.length → (∀ x ∈ b.entries, x.unackA = true ∨ x.unackB = true) →
          t.alerts.entries = b.entries ∧ t.alerts.marker = true
          ∧ ∀ m, m ∈ t.alerts.overflow ↔ m ∈ b.overflow ∨ m = (p, k)))
    ∧ (s.active p k = true →
      let t := s.clearCond p k
      JudgedFrom t s ∧ t.active p k = false ∧ Claims.Flagged t .alertCleared
      ∧ (∀ before e after, b.entries = before ++ e :: after → (∀ x ∈ before, ¬ (x.pos = p ∧ x.kind = k)) →
          e.pos = p → e.kind = k →
          t.alerts = ⟨before ++ after, b.overflow, if b.overflow = [] then false else b.marker⟩)
      ∧ ((∀ x ∈ b.entries, ¬ (x.pos = p ∧ x.kind = k)) →
          t.alerts.entries = b.entries ∧ t.alerts.marker = b.marker ∧ t.alerts.overflow = b.overflow.erase (p, k)))

/-- A kind parameter of ACK_ALERT covers a kind (R110, R178). -/
def Sys2Proof.Claims.kindCovers (kind : Byte) (k : Condition) : Bool :=
  kind == 0xFF || decide (kind.toNat = Condition.all.idxOf k)

def Obligations.AcknowledgementClearsOwnMarks : Prop :=
  ∀ (s : State) (q : PortId) (a k kind : Byte), Claims.Takes s q →
    let matching : AlertEntry → Bool := fun e =>
      decide (e.pos.axle.val = a.toNat ∧ e.pos.slot.val = k.toNat) && Claims.kindCovers kind e.kind
    (s.loading = true → exec (.ackAlert q a k kind) s = .next (s.answer q .busy []))
    ∧ (s.loading = false → (9 < a.toNat ∨ 3 < k.toNat ∨ (9 < kind.toNat ∧ kind ≠ 0xFF)) →
        exec (.ackAlert q a k kind) s = .next (s.answer q .range []))
    ∧ (s.loading = false → a.toNat ≤ 9 → k.toNat ≤ 3 → (kind.toNat ≤ 9 ∨ kind = 0xFF) →
        exec (.ackAlert q a k kind) s = .next
          (State.answer
            { s with alerts := { s.alerts with
                entries := s.alerts.entries.map fun e =>
                  if matching e then (match q with
                    | .a => { e with unackA := false }
                    | .b => { e with unackB := false })
                  else e } }
            q .ok [BitVec.ofNat 8 (s.alerts.entries.filter fun e =>
              matching e && (match q with | .a => e.unackA | .b => e.unackB)).length]))

/-! ## Supply watch -/

def Obligations.SupplySampleIsJudged : Prop :=
  ∀ (s : State) (level : Int),
    let v := (Claims.nearest 0 400 level).toNat
    let th := s.config.supplyThreshold
    let sampled : SupplyState → Fin 2 → State := fun x n => { s with supply := ⟨x, n, some v⟩ }
    (s.uptime.toNat % 5 ≠ 0 → exec (.vsenseSample level) s = .next s)
    ∧ (s.uptime.toNat % 5 = 0 → s.uptime ≠ 0 →
      (s.supply.state = .normal → th ≤ (v : Int) → exec (.vsenseSample level) s = .next (sampled .normal s.supply.recovery))
      ∧ (s.supply.state = .normal → (v : Int) < th →
          exec (.vsenseSample level) s = .next ((sampled .low 0).setFlagBoth .supply))
      ∧ (s.supply.state = .low → (v : Int) < th + 15 → exec (.vsenseSample level) s = .next (sampled .low 0))
      ∧ (s.supply.state = .low → th + 15 ≤ (v : Int) → s.supply.recovery = 0 →
          exec (.vsenseSample level) s = .next (sampled .low 1))
      ∧ (s.supply.state = .low → th + 15 ≤ (v : Int) → s.supply.recovery = 1 →
          exec (.vsenseSample level) s = .next (State.setFlagBoth
            { sampled .normal 0 with
              wheels := s.wheels.map fun r =>
                if r.state = .awaiting ∨ r.state = .live then { r with silenceRef := some s.uptime } else r
              learn := { s.learn with session := s.learn.session.map fun l => { l with timerStart := s.uptime } }
              store := match s.store.state with
                | .pending => { s.store with state := .writing s.workingImage }
                | _ => s.store }
            .supply)))

/-! ## Tip permit -/

/-- A considered axle (R115). -/
def Sys2Proof.Claims.Considered (s : State) (a : Fin 10) : Prop :=
  (s.axle a).present = true ∧ (s.axle a).tipCritical = true
    ∧ ((s.axle a).unit = .truck ∨ s.vehicle.trailer = .present) ∧ s.vehicle.lifted.getLsbD a.val = false

/-- A cause holds for a record (R116). -/
def Sys2Proof.Claims.CauseHolds (r : WheelRecord) : Cause → Prop
  | .noCriticalAxle => False
  | .noSensor => r.state = .empty
  | .notLive => r.state ≠ .empty ∧ r.state ≠ .live
  | .lowAlarm => r.conditions.lowAlarm = true
  | .leak => r.conditions.leak = true
  | .imbalance => r.conditions.imbalance = true
  | .sideBalance => False

/-- The two sides of an axle differ by more than its side limit (R117). -/
def Sys2Proof.Claims.SidesDiffer (s : State) (a : Fin 10) : Prop :=
  let limit := (s.levelsOf a).side
  ((s.axle a).kind = .single ∧ ∃ l r, Claims.LiveAt s ⟨a, 0⟩ l ∧ Claims.LiveAt s ⟨a, 3⟩ r ∧ limit < |l - r|)
  ∨ ((s.axle a).kind = .dual ∧ ∃ lo li ri ro, Claims.LiveAt s ⟨a, 0⟩ lo ∧ Claims.LiveAt s ⟨a, 1⟩ li
      ∧ Claims.LiveAt s ⟨a, 2⟩ ri ∧ Claims.LiveAt s ⟨a, 3⟩ ro ∧ limit < |(lo + li).tdiv 2 - (ri + ro).tdiv 2|)

/-- The place of a reason in the order of R118: axle, then slot with AXLE last, then cause. -/
def Sys2Proof.Claims.place (r : Reason) : Nat :=
  100 * (match r.axle with | some a => a.val | none => 0) + 10 * (match r.slot with | some k => k.val | none => 4)
    + (match r.cause with
      | .noCriticalAxle => 0 | .noSensor => 1 | .notLive => 2 | .lowAlarm => 3 | .leak => 4 | .imbalance => 5
      | .sideBalance => 6)

def Obligations.ReasonsFollowTheWheels : Prop :=
  ∀ s : State,
    let full := s.fullReasons
    ((∀ a, ¬ Claims.Considered s a) → full = [⟨none, none, .noCriticalAxle⟩])
    ∧ ((∃ a, Claims.Considered s a) →
      (∀ a k c, (⟨some a, some k, c⟩ : Reason) ∈ full ↔
        Claims.Considered s a ∧ Claims.ValidSlot (s.axle a) k ∧ Claims.CauseHolds (s.wheel ⟨a, k⟩) c)
      ∧ (∀ a c, (⟨some a, none, c⟩ : Reason) ∈ full ↔ Claims.Considered s a ∧ c = .sideBalance ∧ Claims.SidesDiffer s a)
      ∧ (∀ k c, (⟨none, k, c⟩ : Reason) ∉ full))
    ∧ full.Pairwise (fun x y => Claims.place x < Claims.place y)
    ∧ (s.permit.basis = .starting → s.evaluate = s)
    ∧ (s.permit.basis = .evaluated →
      let t := s.evaluate
      let raw : Verdict := if full = [] then .granted else .withheld
      JudgedFrom t s ∧ t.wheels = s.wheels ∧ t.alerts = s.alerts
      ∧ t.permit.basis = .evaluated ∧ t.permit.reasons = full.take 8 ∧ (t.permit.more = true ↔ 8 < full.length)
      ∧ (s.vehicle.body = .down → t.permit.verdict = raw ∧ t.permit.latched = false)
      ∧ (s.vehicle.body ≠ .down → s.permit.verdict = .granted →
          t.permit.verdict = raw ∧ (t.permit.latched = true ↔ raw = .withheld))
      ∧ (s.vehicle.body ≠ .down → s.permit.verdict = .withheld →
          t.permit.verdict = .withheld ∧ t.permit.latched = true))

def Obligations.WithheldVerdictIsHeldByTheBody : Prop :=
  ∀ s t : State, PermitLaw s → step s = .next t → s.vehicle.body ≠ .down → t.vehicle.body ≠ .down →
    s.permit.verdict = .withheld → t.permit.verdict = .withheld ∧ t.permit.latched = true ∧ t.tipOkPin = false

/-- A command after which the part is as after power-up. -/
def Sys2Proof.Claims.Restarts (c : Instr) : Prop := c = .powerUp ∨ c = .resetN ∨ c = .powerLoss

def Obligations.PermitFlagFollowsTheVerdict : Prop :=
  (∀ s : State, s.tipOkPin = true ↔ s.permit.verdict = .granted)
  ∧ ∀ (c : Instr) (s t : State), exec c s = .next t → ¬ Claims.Restarts c →
    let changed := t.permit.verdict ≠ s.permit.verdict ∨ t.permit.latched ≠ s.permit.latched
    (changed → Claims.Flagged t .permit)
    ∧ (¬ changed → ∀ q, (t.port q).flag .permit = true → (s.port q).flag .permit = true)

/-- What R74 watches of a record: state, bands and active conditions. -/
def Sys2Proof.Claims.SameJudged (r r' : WheelRecord) : Prop :=
  r.state = r'.state ∧ r.band = r'.band ∧ r.tempBand = r'.tempBand ∧ r.conditions = r'.conditions

/-- Events that set WHEEL, ALERT_RAISED and ALERT_CLEARED by R74 and R109 alone: not those of map edits and learning
results (R14, R140), which set WHEEL by rules of their own, nor PORT_RESET (R112). -/
def Sys2Proof.Claims.FlagsByRecordsAlone (s t : State) : Instr → Prop
  | .entryTaken => s.learn.session = none ∨ t.learn.session.isSome = true
  | .mapAssign .. | .mapRemove .. | .mapSetAxle .. | .mapMove .. | .learnSkip .. | .learnFinish .. | .portReset .. => False
  | _ => True

def Obligations.WheelAndAlertFlagsFollowTheRecords : Prop :=
  ∀ (c : Instr) (s t : State), exec c s = .next t → ¬ Claims.Restarts c → c ≠ .loadCompletion →
    let moved : Condition → Prop := fun k =>
      (k = .sensorFault ∨ k = .batteryLow) ∧ ∃ q g sa sk na ns da dk m, c = .mapMove q g sa sk na ns da dk m
    let changed := ∃ p, ¬ Claims.SameJudged (s.wheel p) (t.wheel p)
    let raised := ∃ p k, s.active p k = false ∧ t.active p k = true ∧ ¬ moved k
    let cleared := ∃ p k, s.active p k = true ∧ t.active p k = false ∧ ¬ moved k
    (RecordLaw s → PairLaw s → changed → Claims.Flagged t .wheel)
    ∧ (raised → Claims.Flagged t .alertRaised) ∧ (cleared → Claims.Flagged t .alertCleared)
    ∧ (CountLaw s → Claims.FlagsByRecordsAlone s t c → ∀ q,
        (¬ changed → (t.port q).flag .wheel = true → (s.port q).flag .wheel = true)
        ∧ (¬ raised → (t.port q).flag .alertRaised = true → (s.port q).flag .alertRaised = true)
        ∧ (¬ cleared → (t.port q).flag .alertCleared = true → (s.port q).flag .alertCleared = true))

/-! ## Vehicle state -/

/-- The reply of SET_VEHICLE and VEHICLE on the other port (R145), for a state whose item is already written. -/
def Sys2Proof.Claims.itemTaken (s : State) (q : PortId) (item : Byte) (value : Half) : State :=
  (s.setFlag (Claims.other q) .vehicle).answer q .ok (item :: Claims.two value)

/-- A record re-evaluated under levels (R96), but for IMBALANCE. -/
def Sys2Proof.Claims.reevaluated (l : Levels) (c : Int) (r : WheelRecord) : WheelRecord :=
  let taken := (bandStep l none r.band r.pending c).1
  { r with
    band := taken.getLast?.getD r.band
    pending := ⟨none, 0, none⟩
    conditions := Claims.bandMoves r.band taken r.conditions }

/-- Re-evaluation of the axles a predicate names (R96, R97): from the wheels of s to those of t, under the levels of t. -/
def Sys2Proof.Claims.Reevaluated (s t : State) (affected : Fin 10 → Prop) : Prop :=
  (∀ p, ¬ affected p.axle → t.wheel p = s.wheel p)
  ∧ (∀ p, (∀ c, ¬ Claims.LiveAt s p c) → t.wheel p = s.wheel p)
  ∧ (∀ p c, affected p.axle → Claims.LiveAt s p c →
      Claims.UpToImbalance (t.wheel p) (Claims.reevaluated (t.levelsOf p.axle) c (s.wheel p)))
  ∧ (∀ (p : Pos) (x y : Int), affected p.axle → (t.axle p.axle).kind = .dual → Claims.LiveAt s p.pairLow x →
      Claims.LiveAt s p.pairHigh y →
      let limit := (t.levelsOf p.axle).imbalance
      let release := limit - (t.levelsOf p.axle).hysteresis
      (limit < |x - y| → t.active p .imbalance = true)
      ∧ (|x - y| ≤ limit → |x - y| ≤ release → t.active p .imbalance = false)
      ∧ (|x - y| ≤ limit → release < |x - y| → t.active p .imbalance = s.active p .imbalance))
  ∧ ∀ p : Pos, (t.axle p.axle).kind = .single ∨ (∀ c, ¬ Claims.LiveAt s p.pairLow c) ∨ (∀ c, ¬ Claims.LiveAt s p.pairHigh c) →
      t.active p .imbalance = s.active p .imbalance

/-- Expiries taken in an event (R149, R153): from the wheels of u, whose items are already written, to those of t. -/
def Sys2Proof.Claims.ExpiriesTaken (u t : State) : Prop :=
  (∀ p, Claims.Due u p → Claims.Flagged t .wheel ∧ ∃ cs : Conditions,
    t.wheel p = { u.wheel p with state := .silent, stale := (u.wheel p).pCold.isSome, conditions := cs }
    ∧ cs.silent = true ∧ ((u.axle p.axle).kind = .dual → cs.imbalance = false)
    ∧ ∀ k, k ≠ .silent → k ≠ .imbalance → cs.has k = u.active p k)
  ∧ (∀ p, ¬ Claims.Due u p → Claims.UpToImbalance (t.wheel p) (u.wheel p))
  ∧ (∀ p, (u.axle p.axle).kind = .dual → Claims.Due u p.pairLow ∨ Claims.Due u p.pairHigh → t.active p .imbalance = false)
  ∧ (∀ p, ((u.axle p.axle).kind = .single ∨ (¬ Claims.Due u p.pairLow ∧ ¬ Claims.Due u p.pairHigh)) →
      t.active p .imbalance = u.active p .imbalance)

def Obligations.LoadWriteReevaluatesPresentAxles : Prop :=
  ∀ (s : State) (q : PortId) (x : LoadState), Claims.Takes s q →
    let value : Half := match x with | .unladen => 0 | .laden => 1
    let u := Claims.itemTaken { s with vehicle := { s.vehicle with load := x, loadWriter := some q } } q 0x00 value
    ∃ t, exec (.setVehicleLoad q value) s = .next t ∧ JudgedFrom t u
      ∧ Claims.Reevaluated s t (fun a => (s.axle a).present = true)

def Obligations.BodyWriteMovesTheLatch : Prop :=
  ∀ (s : State) (q : PortId) (x : BodyState), Claims.Takes s q →
    let value : Half := match x with | .down => 0 | .raising => 1 | .raised => 2 | .lowering => 3
    let u := Claims.itemTaken { s with vehicle := { s.vehicle with body := x, bodyWriter := some q } } q 0x01 value
    let raw : Verdict := if s.fullReasons = [] then .granted else .withheld
    ∃ t, exec (.setVehicleBody q value) s = .next t ∧ JudgedFrom t u ∧ t.wheels = s.wheels ∧ t.alerts = s.alerts
      ∧ (∀ q', (t.port q').flag .wheel = (s.port q').flag .wheel)
      ∧ (s.permit.basis = .starting → t.permit = { s.permit with
          latched := if x = .down then false else if s.vehicle.body = .down then true else s.permit.latched })
      ∧ (s.permit.basis = .evaluated →
          t.permit.basis = .evaluated ∧ t.permit.reasons = s.fullReasons.take 8
          ∧ (t.permit.more = true ↔ 8 < s.fullReasons.length)
          ∧ (x = .down → t.permit.verdict = raw ∧ t.permit.latched = false)
          ∧ (x ≠ .down → s.permit.verdict = .granted →
              t.permit.verdict = raw ∧ (t.permit.latched = true ↔ raw = .withheld))
          ∧ (x ≠ .down → s.permit.verdict = .withheld → t.permit.verdict = .withheld ∧ t.permit.latched = true))

/-- A record detached (R19). -/
def Sys2Proof.Claims.detached (r : WheelRecord) : WheelRecord :=
  { r with
    state := .detached
    conditions := .none
    band := .ok
    tempBand := .ok
    pending := ⟨none, 0, none⟩
    leakCount := 0
    stale := r.pCold.isSome }

/-- A RUNNING session has a trailer axle (R128). -/
def Sys2Proof.Claims.SessionHasTrailer (s : State) : Prop :=
  ∃ a : Fin 10, Claims.InSession s a.val ∧ (s.axle a).present = true ∧ (s.axle a).unit = .trailer

def Obligations.TrailerWriteDetachesAndAttaches : Prop :=
  ∀ (s : State) (q : PortId) (x : TrailerState), Claims.Takes s q →
    let value : Half := match x with | .absent => 0 | .present => 1
    let u := Claims.itemTaken { s with vehicle := { s.vehicle with trailer := x, trailerWriter := some q } } q 0x02 value
    ∃ t, exec (.setVehicleTrailer q value) s = .next t
      ∧ (x = s.vehicle.trailer → JudgedFrom t u ∧ t.wheels = s.wheels ∧ t.alerts = s.alerts)
      ∧ (x = .present → s.vehicle.trailer = .absent →
          JudgedFrom t u ∧ t.alerts = s.alerts
          ∧ (∀ p, (s.wheel p).state = .detached →
              t.wheel p = { s.wheel p with state := .awaiting, silenceRef := some s.uptime } ∧ Claims.Flagged t .wheel)
          ∧ (∀ p, (s.wheel p).state ≠ .detached → t.wheel p = s.wheel p))
      ∧ (x = .absent → s.vehicle.trailer = .present →
          (Claims.SessionHasTrailer s → JudgedFrom t (State.setFlagBoth { u with learn := ⟨none, .cancelled⟩ } .learn))
          ∧ (¬ Claims.SessionHasTrailer s → JudgedFrom t u)
          ∧ ∀ p,
            let concerned := (s.axle p.axle).present = true ∧ (s.axle p.axle).unit = .trailer
            (¬ concerned → t.wheel p = s.wheel p)
            ∧ (concerned → (s.wheel p).state ≠ .empty → (s.wheel p).state ≠ .detached →
                t.wheel p = Claims.detached (s.wheel p) ∧ Claims.Flagged t .wheel)
            ∧ (concerned → (s.wheel p).state = .empty ∨ (s.wheel p).state = .detached →
                Claims.UpToImbalance (t.wheel p) (s.wheel p)))

def Obligations.MotionAndLiftWritesTakeExpiries : Prop :=
  (∀ (s : State) (q : PortId) (x : MotionState), Claims.Takes s q →
    let value : Half := match x with | .stopped => 0 | .moving => 1
    let u := Claims.itemTaken { s with vehicle := { s.vehicle with motion := x, motionWriter := some q } } q 0x03 value
    ∃ t, exec (.setVehicleMotion q value) s = .next t ∧ JudgedFrom t u ∧ Claims.ExpiriesTaken u t)
  ∧ ∀ (s : State) (q : PortId) (value : Half) (admitted : BitVec 10), Claims.Takes s q → value.toNat < 1024 →
    (∀ a : Fin 10, admitted.getLsbD a.val = true ↔
      value.getLsbD a.val = true ∧ (s.axle a).present = true ∧ (s.axle a).liftCapable = true) →
    let u := Claims.itemTaken { s with vehicle := { s.vehicle with lifted := admitted, liftedWriter := some q } } q 0x04
      (admitted.setWidth 16)
    ∃ t, exec (.setVehicleLiftedSet q value) s = .next t ∧ JudgedFrom t u
      ∧ (admitted = s.vehicle.lifted → t.wheels = s.wheels ∧ t.alerts = s.alerts)
      ∧ (admitted ≠ s.vehicle.lifted → Claims.ExpiriesTaken u t)

def Obligations.VehicleValuesAreJudged : Prop :=
  ∀ (s : State) (q : PortId) (value : Half), Claims.Takes s q →
    (1 < value.toNat → exec (.setVehicleLoad q value) s = .next (s.answer q .range []))
    ∧ (3 < value.toNat → exec (.setVehicleBody q value) s = .next (s.answer q .range []))
    ∧ (1 < value.toNat → exec (.setVehicleTrailer q value) s = .next (s.answer q .range []))
    ∧ (1 < value.toNat → exec (.setVehicleMotion q value) s = .next (s.answer q .range []))
    ∧ (1023 < value.toNat → exec (.setVehicleLiftedSet q value) s = .next (s.answer q .range []))
    ∧ (let ambient := Claims.nearest 500 1100 (value.toNat : Int)
      exec (.setVehicleAmbient q value) s = .next
        (Claims.itemTaken { s with vehicle := { s.vehicle with ambient := ambient, ambientWriter := some q } } q 0x05
          (BitVec.ofInt 16 ambient)))

/-! ## Configuration -/

/-- The configuration after a write, and the value as taken (R151, R152). -/
def Sys2Proof.Claims.configured (c : ConfigItems) (item : Nat) (value : BitVec 32) : ConfigItems × BitVec 32 :=
  let w := value.toInt
  let clamped : Int → Int → Int := fun lo hi => Claims.nearest lo hi w
  match item with
  | 0 => ({ c with movingLimit := clamped 30 600 }, BitVec.ofInt 32 (clamped 30 600))
  | 1 => ({ c with stoppedLimit := clamped 300 7200 }, BitVec.ofInt 32 (clamped 300 7200))
  | 2 => ({ c with referenceTemp := clamped (-20) 40 }, BitVec.ofInt 32 (clamped (-20) 40))
  | 3 => ({ c with pattern := value }, value)
  | 4 => ({ c with mask := value }, value)
  | 5 => ({ c with rssiFloor := clamped (-120) (-40) }, BitVec.ofInt 32 (clamped (-120) (-40)))
  | 6 => ({ c with learnTimeout := clamped 10 600 }, BitVec.ofInt 32 (clamped 10 600))
  | _ => ({ c with supplyThreshold := clamped 80 240 }, BitVec.ofInt 32 (clamped 80 240))

/-- A position timer expiry is due (R136). -/
def Sys2Proof.Claims.TimerDue (s : State) : Prop :=
  s.supply.state = .normal ∧ ∃ l, s.learn.session = some l
    ∧ 10 * s.config.learnTimeout ≤ ((s.uptime - l.timerStart).toNat : Int)

/-- The session ended without a result (R135, R136). -/
def Sys2Proof.Claims.sessionEnded (s : State) (o : LearnOutcome) : State :=
  State.setFlagBoth { s with learn := ⟨none, o⟩ } .learn

def Obligations.ConfigWriteTakesTheClampedValue : Prop :=
  ∀ (s : State) (q : PortId) (item : Byte) (value : BitVec 32), Claims.Takes s q →
    (s.loading = true → exec (.setConfig q item value) s = .next (s.answer q .busy []))
    ∧ (s.loading = false → 7 < item.toNat → exec (.setConfig q item value) s = .next (s.answer q .range []))
    ∧ (s.loading = false → item.toNat ≤ 7 →
      let out := Claims.configured s.config item.toNat value
      let u := (State.setFlagBoth { s with config := out.1, generation := s.generation + 1 } .image).answer q .ok
        (item :: Claims.four out.2)
      (item.toNat = 0 ∨ item.toNat = 1 →
        ∃ t, exec (.setConfig q item value) s = .next t ∧ JudgedFrom t u ∧ Claims.ExpiriesTaken u t)
      ∧ (item.toNat = 6 → Claims.TimerDue u →
          exec (.setConfig q item value) s = .next (Claims.sessionEnded u .timedOut))
      ∧ (item.toNat = 6 → ¬ Claims.TimerDue u → exec (.setConfig q item value) s = .next u)
      ∧ (2 ≤ item.toNat → item.toNat ≠ 6 → exec (.setConfig q item value) s = .next u))

/-! ## Map edits -/

/-- What an edit that passes its checks does besides slots and records (R14). -/
def Sys2Proof.Claims.edited (s : State) (q : PortId) : State :=
  (State.setFlagBoth { s with generation := s.generation + 1 } .image).answer q .ok []

/-- An edit of one position: its record becomes r, the IMBALANCE of its pair clears on a DUAL axle, and nothing else of
the wheel table changes (R16, R17, R20). -/
def Sys2Proof.Claims.OneRecord (s t : State) (p : Pos) (r : WheelRecord) : Prop :=
  t.wheel p = r ∧ Claims.Flagged t .wheel
  ∧ (∀ p', p' ≠ p → Claims.UpToImbalance (t.wheel p') (s.wheel p'))
  ∧ (∀ p', p' ≠ p → p' = p.pairLow ∨ p' = p.pairHigh → (s.axle p.axle).kind = .dual → t.active p' .imbalance = false)
  ∧ (∀ p', p' ≠ p → (p' ≠ p.pairLow ∧ p' ≠ p.pairHigh) ∨ (s.axle p.axle).kind = .single → t.wheel p' = s.wheel p')

def Obligations.AssignAndRemoveEditOneSlot : Prop :=
  ∀ (s : State) (q : PortId) (expected : Generation) (a k : Byte) (id : SensorId), Claims.Takes s q → MapLaw s →
    let assign := exec (.mapAssign q expected a k id) s
    let remove := exec (.mapRemove q expected a k) s
    (s.loading = true → assign = .next (s.answer q .busy []) ∧ remove = .next (s.answer q .busy []))
    ∧ (s.loading = false →
        (¬ ∃ p : Pos, a.toNat = p.axle.val ∧ k.toNat = p.slot.val ∧ Claims.ValidSlot (s.axle p.axle) p.slot) →
        assign = .next (s.answer q .range []) ∧ remove = .next (s.answer q .range []))
    ∧ ∀ p : Pos, s.loading = false → a.toNat = p.axle.val → k.toNat = p.slot.val → Claims.ValidSlot (s.axle p.axle) p.slot →
        let bad := id = 0x00000000 ∨ id = 0xFFFFFFFF
        let stale := expected ≠ s.generation
        let guarded := Claims.Protected s p.axle.val
        let session := Claims.InSession s p.axle.val
        let elsewhere := ∃ p', p' ≠ p ∧ s.slotId p' = some id
        (bad → assign = .next (s.answer q .badId []))
        ∧ (¬ bad → stale → assign = .next (s.answer q .stale []))
        ∧ (¬ bad → ¬ stale → guarded → assign = .next (s.answer q .underProtection []))
        ∧ (¬ bad → ¬ stale → ¬ guarded → session → assign = .next (s.answer q .busy []))
        ∧ (¬ bad → ¬ stale → ¬ guarded → ¬ session → elsewhere → assign = .next (s.answer q .inUse []))
        ∧ (¬ bad → ¬ stale → ¬ guarded → ¬ session → ¬ elsewhere → ∃ t, assign = .next t
            ∧ JudgedFrom t { Claims.edited s q with slots := s.slots.set p.idx.val (some id) p.idx.isLt }
            ∧ (s.slotId p = some id → t.wheels = s.wheels ∧ t.alerts = s.alerts)
            ∧ (s.slotId p ≠ some id → Claims.OneRecord s t p (Claims.freshRecord s p)))
        ∧ (stale → remove = .next (s.answer q .stale []))
        ∧ (¬ stale → guarded → remove = .next (s.answer q .underProtection []))
        ∧ (¬ stale → ¬ guarded → session → remove = .next (s.answer q .busy []))
        ∧ (¬ stale → ¬ guarded → ¬ session → ∃ t, remove = .next t
            ∧ JudgedFrom t { Claims.edited s q with slots := s.slots.set p.idx.val none p.idx.isLt }
            ∧ (s.slotId p = none → t.wheels = s.wheels ∧ t.alerts = s.alerts)
            ∧ (s.slotId p ≠ none → Claims.OneRecord s t p .empty))

/-- Six codes name the six fields of an axle record (R23, R178). -/
def Sys2Proof.Claims.CodesName (present unit kind profile tip lift : Byte) (r : AxleRecord) : Prop :=
  present.toNat = (if r.present then 1 else 0)
  ∧ unit.toNat = (match r.unit with | .truck => 0 | .trailer => 1)
  ∧ kind.toNat = (match r.kind with | .single => 0 | .dual => 1)
  ∧ profile.toNat = r.profile.val ∧ tip.toNat = (if r.tipCritical then 1 else 0)
  ∧ lift.toNat = (if r.liftCapable then 1 else 0)

def Obligations.SetAxleWritesOneRecordWhole : Prop :=
  ∀ (s : State) (q : PortId) (expected : Generation) (x present unit kind profile tip lift : Byte), Claims.Takes s q → MapLaw s → RecordLaw s →
    let answer := exec (.mapSetAxle q expected x present unit kind profile tip lift) s
    (s.loading = true → answer = .next (s.answer q .busy []))
    ∧ (s.loading = false →
        (9 < x.toNat ∨ ¬ ∃ r, Claims.CodesName present unit kind profile tip lift r) → answer = .next (s.answer q .range []))
    ∧ ∀ (a : Fin 10) (r : AxleRecord), s.loading = false → x.toNat = a.val →
        Claims.CodesName present unit kind profile tip lift r →
        let stale := expected ≠ s.generation
        let guarded := Claims.Protected s a.val
        let session := Claims.InSession s a.val
        let old := s.axle a
        let drops := s.vehicle.lifted.getLsbD a.val = true ∧ (r.present = false ∨ r.liftCapable = false)
        let unitMoves := s.vehicle.trailer = .absent ∧ r.unit ≠ old.unit
        (stale → answer = .next (s.answer q .stale []))
        ∧ (¬ stale → guarded → answer = .next (s.answer q .underProtection []))
        ∧ (¬ stale → ¬ guarded → session → answer = .next (s.answer q .busy []))
        ∧ (¬ stale → ¬ guarded → ¬ session → ∃ (t : State) (lifts : BitVec 10), answer = .next t
            ∧ (∀ b : Fin 10, lifts.getLsbD b.val = true ↔ s.vehicle.lifted.getLsbD b.val = true ∧ ¬ (b = a ∧ drops))
            ∧ (let u := { Claims.edited s q with
                  axles := s.axles.set a.val r a.isLt
                  slots := t.slots
                  vehicle := { s.vehicle with lifted := lifts } }
               (drops → JudgedFrom t (State.setFlagBoth u .vehicle)) ∧ (¬ drops → JudgedFrom t u))
            ∧ ∀ p,
              let lost := p.axle = a ∧ ¬ Claims.ValidSlot r p.slot
              t.slotId p = (if p.axle = a ∧ (s.validPos p && !r.validSlot p.slot) = true then none else s.slotId p)
              ∧ (p.axle ≠ a → t.wheel p = s.wheel p)
              ∧ (lost → t.slotId p = none ∧ t.wheel p = .empty)
              ∧ (p.axle = a → ¬ lost → unitMoves → r.unit = .trailer → (s.wheel p).state ≠ .empty →
                  (s.wheel p).state ≠ .detached → t.wheel p = Claims.detached (s.wheel p) ∧ Claims.Flagged t .wheel)
              ∧ (p.axle = a → ¬ lost → unitMoves → r.unit = .truck → (s.wheel p).state = .detached →
                  Claims.UpToImbalance (t.wheel p) { s.wheel p with state := .awaiting, silenceRef := some s.uptime }
                  ∧ Claims.Flagged t .wheel)
              ∧ ((s.wheel p).state = .empty → t.wheel p = s.wheel p)
              ∧ (p.axle = a → ¬ lost → ¬ unitMoves → r.profile = old.profile → Claims.UpToImbalance (t.wheel p) (s.wheel p))
              ∧ (p.axle = a → ¬ lost → ¬ unitMoves → r.profile ≠ old.profile →
                  ((∀ c, ¬ Claims.LiveAt s p c) → Claims.UpToImbalance (t.wheel p) (s.wheel p))
                  ∧ ∀ c, Claims.LiveAt s p c →
                    Claims.UpToImbalance (t.wheel p) (Claims.reevaluated (t.levelsOf a) c (s.wheel p)))
              ∧ (p.axle = a → old.present = true → old.kind = .dual → r.present = false ∨ r.kind = .single →
                  t.active p .imbalance = false)
              ∧ (p.axle = a → ¬ lost → ¬ unitMoves → old.present = false ∨ old.kind = .single →
                  t.active p .imbalance = s.active p .imbalance)
              ∧ (r.present = old.present → r.kind = old.kind → ¬ unitMoves → r.profile = old.profile →
                  t.wheels = s.wheels ∧ t.alerts = s.alerts)
              ∧ (r.present = old.present → r.kind = old.kind → ¬ unitMoves → r.profile ≠ old.profile →
                  Claims.Reevaluated s t (fun b => b = a ∧ r.present = true)))

/-- A position lies in the rectangle that starts at an axle and a slot (R26). -/
def Sys2Proof.Claims.InRectangle (axle slot na ns : Byte) (p : Pos) : Prop :=
  axle.toNat ≤ p.axle.val ∧ p.axle.val ≤ axle.toNat + na.toNat ∧ slot.toNat ≤ p.slot.val ∧ p.slot.val ≤ slot.toNat + ns.toNat

/-- A carried record (R18). -/
def Sys2Proof.Claims.carriedRecord (s : State) (p d : Pos) : WheelRecord :=
  { s.wheel p with
    state := if s.detachedSlot d then .detached else .awaiting
    silenceRef := some s.uptime
    stale := (s.wheel p).pCold.isSome
    band := .ok
    tempBand := .ok
    pending := ⟨none, 0, none⟩
    leakCount := 0
    conditions :=
      if s.detachedSlot d then .none
      else { Conditions.none with
        sensorFault := (s.wheel p).conditions.sensorFault
        batteryLow := (s.wheel p).conditions.batteryLow } }

/-- The alert list after conditions were cleared (no place) or re-addressed (R106 to R108): what stays listed keeps its order
and its fields but the position, members of the overflow set likewise, and the marker clears when an entry leaves while the
overflow set is empty and stays while the set holds a member. -/
def Sys2Proof.Claims.AlertsPlaced (s t : State) (place : Pos → Condition → Option Pos) : Prop :=
  t.alerts.entries = s.alerts.entries.filterMap (fun e => (place e.pos e.kind).map fun d => { e with pos := d })
  ∧ (∀ d k, (d, k) ∈ t.alerts.overflow ↔ ∃ p, (p, k) ∈ s.alerts.overflow ∧ place p k = some d)
  ∧ (t.alerts.entries.length = s.alerts.entries.length → t.alerts.marker = s.alerts.marker)
  ∧ (t.alerts.entries.length ≠ s.alerts.entries.length → s.alerts.overflow = [] → t.alerts.marker = false)
  ∧ (t.alerts.overflow ≠ [] → t.alerts.marker = s.alerts.marker)

def Obligations.MoveCarriesRecords : Prop :=
  ∀ (s : State) (q : PortId) (expected : Generation) (sa sk na ns da dk mode : Byte), Claims.Takes s q → MapLaw s →
    let answer := exec (.mapMove q expected sa sk na ns da dk mode) s
    let inSource := Claims.InRectangle sa sk na ns
    let inDest := Claims.InRectangle da dk na ns
    let outside := 9 < sa.toNat + na.toNat ∨ 9 < da.toNat + na.toNat ∨ 3 < sk.toNat + ns.toNat ∨ 3 < dk.toNat + ns.toNat
      ∨ 1 < mode.toNat
    let names : Fin 10 → Prop := fun a =>
      (sa.toNat ≤ a.val ∧ a.val ≤ sa.toNat + na.toNat) ∨ (da.toNat ≤ a.val ∧ a.val ≤ da.toNat + na.toNat)
    let stale := expected ≠ s.generation
    let guarded := ∃ a : Fin 10, names a ∧ Claims.Protected s a.val
    let session := ∃ a : Fin 10, names a ∧ Claims.InSession s a.val
    let goes : Pos → Pos → Prop := fun p d => inSource p ∧ p.axle.val + da.toNat = d.axle.val + sa.toNat
      ∧ p.slot.val + dk.toNat = d.slot.val + sk.toNat
    let unfit := ∃ p d id, goes p d ∧ s.slotId p = some id ∧ ¬ Claims.ValidSlot (s.axle d.axle) d.slot
    let arrives : Pos → Prop := fun d => ∃ p id, goes p d ∧ s.slotId p = some id
    let touched : Pos → Prop := fun d => inSource d ∨ arrives d ∨ (inDest d ∧ mode.toNat = 1)
    (s.loading = true → answer = .next (s.answer q .busy []))
    ∧ (s.loading = false → outside → answer = .next (s.answer q .range []))
    ∧ (s.loading = false → ¬ outside → stale → answer = .next (s.answer q .stale []))
    ∧ (s.loading = false → ¬ outside → ¬ stale → guarded → answer = .next (s.answer q .underProtection []))
    ∧ (s.loading = false → ¬ outside → ¬ stale → ¬ guarded → session → answer = .next (s.answer q .busy []))
    ∧ (s.loading = false → ¬ outside → ¬ stale → ¬ guarded → ¬ session → unfit → answer = .next (s.answer q .range []))
    ∧ (s.loading = false → ¬ outside → ¬ stale → ¬ guarded → ¬ session → ¬ unfit → ∃ t, answer = .next t
        ∧ JudgedFrom t { Claims.edited s q with slots := t.slots }
        ∧ (∀ p d id, goes p d → s.slotId p = some id →
            t.slotId d = some id ∧ t.wheel d = Claims.carriedRecord s p d ∧ Claims.Flagged t .wheel)
        ∧ (AlertLaw s → ∃ place : Pos → Condition → Option Pos,
            Claims.AlertsPlaced s t place
            ∧ (∀ p d id k, s.active p k = true → goes p d → s.slotId p = some id → place p k
                = if (k = .sensorFault ∨ k = .batteryLow) ∧ s.detachedSlot d = false then some d else none)
            ∧ ∀ p k, s.active p k = true →
              let partner := k = .imbalance ∧ (s.axle p.axle).kind = .dual ∧ (touched p.pairLow ∨ touched p.pairHigh)
              (touched p → (inSource p → s.slotId p = none) → place p k = none)
              ∧ (¬ touched p → partner → place p k = none) ∧ (¬ touched p → ¬ partner → place p k = some p))
        ∧ (∀ d, ¬ arrives d → inSource d ∨ (inDest d ∧ mode.toNat = 1) → t.slotId d = none ∧ t.wheel d = .empty)
        ∧ (∀ d, ¬ touched d → t.slotId d = s.slotId d ∧ Claims.UpToImbalance (t.wheel d) (s.wheel d))
        ∧ (∀ d, ¬ touched d → (s.axle d.axle).kind = .dual → touched d.pairLow ∨ touched d.pairHigh →
            t.active d .imbalance = false)
        ∧ (∀ d, ((s.axle d.axle).kind = .single ∨ (¬ touched d.pairLow ∧ ¬ touched d.pairHigh)) → ¬ touched d →
            t.wheel d = s.wheel d))

def Obligations.MapProtectSetsOrClearsTheRange : Prop :=
  ∀ (s : State) (q : PortId) (expected : Generation) (action first last : Byte), Claims.Takes s q →
    let answer := exec (.mapProtect q expected action first last) s
    let unfit := 1 < action.toNat ∨ (action.toNat = 1 ∧ (9 < first.toNat ∨ 9 < last.toNat ∨ last.toNat < first.toNat))
    (s.loading = true → answer = .next (s.answer q .busy []))
    ∧ (s.loading = false → unfit → answer = .next (s.answer q .range []))
    ∧ (s.loading = false → ¬ unfit → expected ≠ s.generation → answer = .next (s.answer q .stale []))
    ∧ (s.loading = false → ¬ unfit → expected = s.generation → s.learn.session.isSome = true →
        answer = .next (s.answer q .busy []))
    ∧ (s.loading = false → ¬ unfit → expected = s.generation → s.learn.session = none →
        answer = .next ((State.setFlagBoth
          { s with
            protect := if action.toNat = 1 then some ⟨first.toNat, last.toNat⟩ else none
            generation := s.generation + 1 } .image).answer q .ok []))

/-! ## Profiles -/

def Obligations.StagingAndCommit : Prop :=
  (∀ (s : State) (q : PortId) (pf fd : Byte), Claims.Takes s q →
    (s.loading = true → exec (.profileSelect q pf fd) s = .next (s.answer q .busy []))
    ∧ (s.loading = false → 3 < pf.toNat ∨ 10 < fd.toNat → exec (.profileSelect q pf fd) s = .next (s.answer q .range []))
    ∧ ∀ (p : Fin 4) (f : Fin 11), s.loading = false → pf.toNat = p.val → fd.toNat = f.val →
        exec (.profileSelect q pf fd) s = .next
          ((s.setPort q { s.port q with staging := some ⟨p, f, s.profiles[p]⟩ }).answer q .ok
            ([pf, fd] ++ Claims.two (BitVec.ofInt 16 (s.profiles[p])[f]))))
  ∧ (∀ (s : State) (q : PortId) (value : Half), Claims.Takes s q →
    let answer := exec (.profileWrite q value) s
    (s.loading = true → answer = .next (s.answer q .busy []))
    ∧ (s.loading = false → (s.port q).staging = none → answer = .next (s.answer q .noSession []))
    ∧ ∀ (p : Fin 4) (f : Fin 11) (copy : Profile), s.loading = false → (s.port q).staging = some ⟨p, f, copy⟩ →
        let v := Claims.nearest (Claims.fieldRanges[f]).1 (Claims.fieldRanges[f]).2 value.toInt
        let next := copy.set f.val v f.isLt
        let alarm := next[3] ≤ next[2]
        let hot := next[9] ≤ next[8]
        let hysteresis := next[2] ≤ next[5]
        (∀ f' : Fin 11, f'.val = f.val + 1 →
          answer = .next ((s.setPort q { s.port q with staging := some ⟨p, f', next⟩ }).answer q .ok
            (Claims.two (BitVec.ofInt 16 v) ++ [BitVec.ofNat 8 p.val, BitVec.ofNat 8 f'.val, 0x00])))
        ∧ (f.val = 10 → alarm ∨ hot ∨ hysteresis →
          answer = .next ((s.setPort q { s.port q with staging := some ⟨p, f, next⟩ }).answer q .badProfile
            (Claims.two (BitVec.ofInt 16 v) ++ [BitVec.ofNat 8 p.val, 0x0A,
              BitVec.ofNat 8 ((if alarm then 1 else 0) + (if hot then 2 else 0) + (if hysteresis then 4 else 0))])))
        ∧ (∀ p' : Fin 4, f.val = 10 → ¬ alarm → ¬ hot → ¬ hysteresis → p'.val = (p.val + 1) % 4 →
          let profiles := s.profiles.set p.val next p.isLt
          ∃ t, answer = .next t
            ∧ JudgedFrom t ((State.setFlagBoth
                (State.setPort { s with profiles := profiles, generation := s.generation + 1 } q
                  { s.port q with staging := some ⟨p', 0, profiles[p']⟩ }) .image).answer q .ok
                (Claims.two (BitVec.ofInt 16 v) ++ [BitVec.ofNat 8 p'.val, 0x00, 0x00]))
            ∧ Claims.Reevaluated s t (fun a => (s.axle a).present = true ∧ (s.axle a).profile = p)))

/-! ## Guided learning -/

/-- The positions of a session's range (R128), in order. -/
def Sys2Proof.Claims.PositionsOf (s : State) (first last : Nat) (ps : List Pos) : Prop :=
  (∀ p, p ∈ ps ↔ first ≤ p.axle.val ∧ p.axle.val ≤ last ∧ Claims.ValidSlot (s.axle p.axle) p.slot)
  ∧ ps.Pairwise (fun p p' => p.axle < p'.axle ∨ (p.axle = p'.axle ∧ p.slot < p'.slot))

def Obligations.LearnStartOpensASession : Prop :=
  ∀ (s : State) (q : PortId) (expected : Generation) (first last : Byte), Claims.Takes s q →
    let answer := exec (.learnStart q expected first last) s
    let within : Fin 10 → Prop := fun a => first.toNat ≤ a.val ∧ a.val ≤ last.toNat
    let unfit := 9 < first.toNat ∨ 9 < last.toNat ∨ last.toNat < first.toNat
    let nobody := ∀ a, within a → (s.axle a).present = false
    let guarded := ∃ a, within a ∧ Claims.Protected s a.val
    let uncoupled := (∃ a, within a ∧ (s.axle a).present = true ∧ (s.axle a).unit = .trailer) ∧ s.vehicle.trailer = .absent
    (s.loading = true → answer = .next (s.answer q .busy []))
    ∧ (s.loading = false → s.learn.session.isSome = true → answer = .next (s.answer q .busy []))
    ∧ (s.loading = false → s.learn.session = none →
      (unfit → answer = .next (s.answer q .range []))
      ∧ (¬ unfit → expected ≠ s.generation → answer = .next (s.answer q .stale []))
      ∧ (¬ unfit → expected = s.generation → nobody → answer = .next (s.answer q .range []))
      ∧ (¬ unfit → expected = s.generation → ¬ nobody → guarded → answer = .next (s.answer q .underProtection []))
      ∧ (¬ unfit → expected = s.generation → ¬ nobody → ¬ guarded → uncoupled → answer = .next (s.answer q .noTrailer []))
      ∧ (∀ ps, ¬ unfit → expected = s.generation → ¬ nobody → ¬ guarded → ¬ uncoupled →
          Claims.PositionsOf s first.toNat last.toNat ps →
          2 ≤ ps.length ∧ ps.length ≤ 40 ∧ answer = .next ((State.setFlagBoth
            { s with learn := ⟨some ⟨⟨first.toNat, last.toNat⟩, ps, 0, [], s.uptime⟩, .none⟩ } .learn).answer q .ok
            [BitVec.ofNat 8 ps.length])))

/-- A result applied (R139, R140): from the map and the wheels of s to those of t. -/
def Sys2Proof.Claims.ResultApplied (s t : State) (staging : List (Pos × Option SensorId)) : Prop :=
  (∀ p id, (p, some id) ∈ staging → t.slotId p = some id ∧ Claims.Flagged t .wheel
    ∧ t.wheel p = { WheelRecord.empty with state := .awaiting, silenceRef := some s.uptime })
  ∧ ∀ p, (∀ id, (p, some id) ∉ staging) →
    ((∃ id p', s.slotId p = some id ∧ (p', some id) ∈ staging) → t.slotId p = none ∧ t.wheel p = .empty)
    ∧ ((¬ ∃ id p', s.slotId p = some id ∧ (p', some id) ∈ staging) →
        t.slotId p = s.slotId p ∧ Claims.UpToImbalance (t.wheel p) (s.wheel p))

/-- The tests of R131 for an entry and the position at the cursor. -/
def Sys2Proof.Claims.Stageable (s : State) (l : Session) (p : Pos) (e : QueueEntry) : Prop :=
  e.channel = (match (s.axle p.axle).unit with | .truck => .rx0 | .trailer => .rx1)
  ∧ s.config.rssiFloor ≤ e.rssi
  ∧ (∀ x ∈ l.staging, x.2 ≠ some e.telegram.id)
  ∧ ∀ p', s.lookup e.telegram.id = some p' → ¬ Claims.Protected s p'.axle.val

def Obligations.LearnEntryIsStagedOrIgnored : Prop :=
  ∀ (s r : State) (e : QueueEntry) (rest : List QueueEntry) (l : Session) (p : Pos), s.queue = e :: rest → e.lost = false →
    e.telegram.kind = .learn → s.learn.session = some l → l.positions[l.cursor]? = some p →
    exec .entryTaken { s with learn := { s.learn with session := none } } = .next r →
    (¬ Claims.Stageable s l p e → exec .entryTaken s = .next { r with learn := s.learn })
    ∧ (Claims.Stageable s l p e → l.cursor + 1 < l.positions.length →
        exec .entryTaken s = .next (State.setFlagBoth
          { r with learn := { s.learn with session := some { l with
              cursor := l.cursor + 1
              staging := l.staging ++ [(p, some e.telegram.id)]
              timerStart := s.uptime } } } .learn))
    ∧ (Lawful s → Claims.Stageable s l p e → l.cursor + 1 = l.positions.length →
        ∃ t, exec .entryTaken s = .next t
          ∧ JudgedFrom t (State.setFlagBoth (State.setFlagBoth
            { s with queue := rest, generation := s.generation + 1, slots := t.slots, learn := ⟨none, .completed⟩ } .image)
            .learn)
          ∧ Claims.ResultApplied r t (l.staging ++ [(p, some e.telegram.id)]))

def Obligations.SessionEndsWithoutAResult : Prop :=
  (∀ (s : State) (q : PortId), Claims.Takes s q →
    (s.loading = true → exec (.learnAbort q) s = .next (s.answer q .busy []))
    ∧ (s.loading = false → s.learn.session = none → exec (.learnAbort q) s = .next (s.answer q .noSession []))
    ∧ (s.loading = false → s.learn.session.isSome = true →
        exec (.learnAbort q) s = .next ((Claims.sessionEnded s .aborted).answer q .ok [])))
  ∧ ∀ s : State,
    (Claims.TimerDue s → exec .positionTimerExpiry s = .next (Claims.sessionEnded s .timedOut))
    ∧ (¬ Claims.TimerDue s → exec .positionTimerExpiry s = .next s)

def Obligations.LearnResultIsApplied : Prop :=
  ∀ (s : State) (q : PortId), Claims.Takes s q →
    (s.loading = true → exec (.learnSkip q) s = .next (s.answer q .busy [])
      ∧ exec (.learnFinish q) s = .next (s.answer q .busy []))
    ∧ (s.loading = false → s.learn.session = none → exec (.learnSkip q) s = .next (s.answer q .noSession [])
      ∧ exec (.learnFinish q) s = .next (s.answer q .noSession []))
    ∧ ∀ l p, Lawful s → s.learn.session = some l → l.positions[l.cursor]? = some p →
      let applied : LearnOutcome → Nat → State → State := fun o n t =>
        (State.setFlagBoth (State.setFlagBoth
          { s with generation := s.generation + 1, slots := t.slots, learn := ⟨none, o⟩ } .image) .learn).answer q .ok
          [BitVec.ofNat 8 n]
      (l.cursor + 1 < l.positions.length →
        exec (.learnSkip q) s = .next ((State.setFlagBoth
          { s with learn := { s.learn with session := some { l with
              cursor := l.cursor + 1
              staging := l.staging ++ [(p, none)]
              timerStart := s.uptime } } } .learn).answer q .ok [BitVec.ofNat 8 (l.cursor + 1)]))
      ∧ (l.cursor + 1 = l.positions.length →
        ∃ t, exec (.learnSkip q) s = .next t ∧ JudgedFrom t (applied .completed l.positions.length t)
          ∧ Claims.ResultApplied s t l.staging)
      ∧ (∃ t, exec (.learnFinish q) s = .next t
          ∧ JudgedFrom t (applied .finishedEarly (l.staging.filter fun x => x.2.isSome).length t)
          ∧ Claims.ResultApplied s t l.staging)

/-! ## Image store -/

/-- One data bit into the CRC-16 register (R157): shifted left, and combined with 1021h when the bit and the register's most
significant bit differ. -/
def Sys2Proof.Claims.crc16Bit (reg : BitVec 16) (bit : Bool) : BitVec 16 :=
  if bit = reg.getLsbD 15 then reg <<< 1 else (reg <<< 1) ^^^ 0x1021

/-- The check value of an image (R157): the CRC-16 of its items in the order of the table, the register preset to FFFFh. -/
def Sys2Proof.Claims.checkValue (i : Image) : BitVec 16 :=
  (Claims.bits (Config.encodeAxles i.axles ++ Config.encodeSlots i.slots ++ Config.encodeProtect i.protect
    ++ Config.encodeProfiles i.profiles ++ Config.encodeConfig i.config ++ Config.encodeGeneration i.generation)).foldl
    Claims.crc16Bit 0xFFFF

def Obligations.CommitsAndWritesOfTheStore : Prop :=
  ∀ (s : State) (q : PortId),
    let begun : State := { s with store := { s.store with state := .writing s.workingImage } }
    (s.workingImage.slots = s.slots ∧ s.workingImage.protect = s.protect ∧ s.workingImage.profiles = s.profiles
      ∧ s.workingImage.config = s.config ∧ s.workingImage.generation = s.generation
      ∧ ∀ a : Fin 10, (s.workingImage.axles[a]).decode = some (s.axle a))
    ∧ (Claims.Takes s q → s.store.state = .idle → s.supply.state = .normal →
        exec (.storeCommit q) s = .next (begun.answer q .accepted [0x03]))
    ∧ (Claims.Takes s q → s.store.state = .idle → s.supply.state = .low →
        exec (.storeCommit q) s = .next (State.answer { s with store := { s.store with state := .pending } } q .accepted [0x02]))
    ∧ (Claims.Takes s q → s.store.state ≠ .idle → exec (.storeCommit q) s = .next (s.answer q .busy []))
    ∧ (s.store.state = .pending → s.supply.state = .normal → exec .writeBegin s = .next begun)
    ∧ (s.store.state ≠ .pending ∨ s.supply.state = .low → exec .writeBegin s = .next s)
    ∧ (∀ i, s.store.state = .writing i →
        exec (.writeCompletion true) s = .next (State.setFlagBoth
          { s with store := ⟨.idle, some i.generation, true, .ok⟩, nonvolatile := .content i (Claims.checkValue i) } .store)
        ∧ ∃ content : Nonvolatile, content.validImage = none
          ∧ exec (.writeCompletion false) s = .next (State.setFlagBoth
            { s with store := ⟨.idle, none, false, .fault⟩, nonvolatile := content } .store))
    ∧ ((∀ i, s.store.state ≠ .writing i) → ∀ b, exec (.writeCompletion b) s = .next s)
    ∧ ∀ i check, (Nonvolatile.content i check).validImage = if check = Claims.checkValue i then some i else none

/-- Every field of a stored axle record is one of its values (R8). -/
def Sys2Proof.Claims.CodesInRange (c : StoredAxle) : Prop :=
  c.present ≤ 1 ∧ c.unit ≤ 1 ∧ c.kind ≤ 1 ∧ c.profile ≤ 3 ∧ c.tipCritical ≤ 1 ∧ c.liftCapable ≤ 1

/-- A stored ID survives corrections 3 and 4 of R8 in a slot. -/
def Sys2Proof.Claims.Placeable (i : Image) (t : State) (p : Pos) (id : SensorId) : Prop :=
  i.slots[p.idx] = some id ∧ id ≠ 0x00000000 ∧ id ≠ 0xFFFFFFFF ∧ Claims.ValidSlot (t.axle p.axle) p.slot

def Obligations.LoadCompletionTakesTheImage : Prop :=
  ∀ s : State,
    (s.loading = false → exec .loadCompletion s = .next s)
    ∧ (s.loading = true → ∃ t, exec .loadCompletion s = .next t
      ∧ JudgedFrom t (State.setFlagBoth
          { s with
            axles := t.axles
            slots := t.slots
            protect := t.protect
            profiles := t.profiles
            config := t.config
            generation := t.generation
            store := t.store } .store)
      ∧ t.alerts = s.alerts ∧ (∀ q, (t.port q).flag .wheel = (s.port q).flag .wheel)
      ∧ t.permit.basis = .evaluated ∧ t.permit.verdict = .withheld ∧ (t.permit.latched = true ↔ s.vehicle.body ≠ .down)
      ∧ (∀ p, t.wheel p = match t.slotId p with | none => .empty | some _ => Claims.freshRecord t p)
      ∧ (s.nonvolatile.validImage = none →
          t.axles = s.axles.map (fun _ => ⟨false, .truck, .single, 0, false, false⟩) ∧ t.slots = s.slots.map (fun _ => none)
          ∧ t.protect = none ∧ t.profiles = s.profiles.map (fun _ => Profile.default) ∧ t.config = ConfigItems.default
          ∧ t.generation = 0 ∧ t.store = ⟨.idle, none, false, s.store.lastWrite⟩)
      ∧ (∀ i, s.nonvolatile.validImage = some i →
          t.generation = i.generation ∧ t.store = ⟨.idle, some i.generation, true, s.store.lastWrite⟩
          ∧ (∀ a : Fin 10,
              (Claims.CodesInRange i.axles[a] → (i.axles[a]).decode = some (t.axle a))
              ∧ (¬ Claims.CodesInRange i.axles[a] → t.axle a = ⟨false, .truck, .single, 0, false, false⟩))
          ∧ t.protect = (match i.protect with
              | none => none
              | some r => if r.lo ≤ r.hi ∧ r.hi ≤ 9 then some r else none)
          ∧ (∀ p id, t.slotId p = some id ↔
              Claims.Placeable i t p id ∧ ∀ p', p'.idx < p.idx → ¬ Claims.Placeable i t p' id)
          ∧ (∀ f : Fin 4, ∃ x : Profile,
              (∀ j : Fin 11, x[j] = Claims.nearest (Claims.fieldRanges[j]).1 (Claims.fieldRanges[j]).2 (i.profiles[f])[j])
              ∧ t.profiles[f] = if x[2] < x[3] ∧ x[8] < x[9] ∧ x[5] < x[2] then x else Profile.default)
          ∧ t.config = ⟨Claims.nearest 30 600 i.config.movingLimit, Claims.nearest 300 7200 i.config.stoppedLimit,
              Claims.nearest (-20) 40 i.config.referenceTemp, i.config.pattern, i.config.mask,
              Claims.nearest (-120) (-40) i.config.rssiFloor, Claims.nearest 10 600 i.config.learnTimeout,
              Claims.nearest 80 240 i.config.supplyThreshold⟩))

/-! ## Laws that every step keeps -/

def Obligations.StepKeepsTheReceivePathLoadAndStore : Prop :=
  ∀ s t : State, Lawful s → step s = .next t →
    ReceiveLaw t ∧ LoadingLaw t ∧ StoreLaw t
    ∧ (∀ i, s.supply.state = .low → t.supply.state = .low → t.store.state = .writing i → s.store.state = .writing i)

def Obligations.StepKeepsValuesInTheirRanges : Prop :=
  ∀ s t : State, Lawful s → step s = .next t → RangeLaw t ∧ LiftLaw t ∧ PressureLaw t ∧ CountLaw t

def Obligations.StepKeepsTheMapSessionAndRecords : Prop :=
  ∀ s t : State, Lawful s → step s = .next t →
    MapLaw t ∧ SessionLaw t ∧ RecordLaw t ∧ DetachedLaw t ∧ StaleLaw t

def Obligations.StepKeepsConditionsAndAlerts : Prop :=
  ∀ s t : State, Lawful s → step s = .next t → MirrorLaw t ∧ PairLaw t ∧ AlertLaw t

def Obligations.StepKeepsThePermitCurrent : Prop :=
  ∀ s t : State, Lawful s → step s = .next t → PermitLaw t ∧ PermitCurrent t
end

