-- ==== Sys2Proof/Laws/State.lean ====
section
/-! SUPPORT. One lemma per field per update of the state: what each basic update leaves unchanged. -/

namespace Sys2Proof.Machine

/-! ## setWheel -/

@[simp] theorem State.setWheel_pending (s : State) (p : Pos) (r : WheelRecord) : (s.setWheel p r).pending = s.pending := rfl
@[simp] theorem State.setWheel_rx0 (s : State) (p : Pos) (r : WheelRecord) : (s.setWheel p r).rx0 = s.rx0 := rfl
@[simp] theorem State.setWheel_rx1 (s : State) (p : Pos) (r : WheelRecord) : (s.setWheel p r).rx1 = s.rx1 := rfl
@[simp] theorem State.setWheel_queue (s : State) (p : Pos) (r : WheelRecord) : (s.setWheel p r).queue = s.queue := rfl
@[simp] theorem State.setWheel_lostPending (s : State) (p : Pos) (r : WheelRecord) : (s.setWheel p r).lostPending = s.lostPending := rfl
@[simp] theorem State.setWheel_axles (s : State) (p : Pos) (r : WheelRecord) : (s.setWheel p r).axles = s.axles := rfl
@[simp] theorem State.setWheel_slots (s : State) (p : Pos) (r : WheelRecord) : (s.setWheel p r).slots = s.slots := rfl
@[simp] theorem State.setWheel_protect (s : State) (p : Pos) (r : WheelRecord) : (s.setWheel p r).protect = s.protect := rfl
@[simp] theorem State.setWheel_generation (s : State) (p : Pos) (r : WheelRecord) : (s.setWheel p r).generation = s.generation := rfl
@[simp] theorem State.setWheel_profiles (s : State) (p : Pos) (r : WheelRecord) : (s.setWheel p r).profiles = s.profiles := rfl
@[simp] theorem State.setWheel_alerts (s : State) (p : Pos) (r : WheelRecord) : (s.setWheel p r).alerts = s.alerts := rfl
@[simp] theorem State.setWheel_permit (s : State) (p : Pos) (r : WheelRecord) : (s.setWheel p r).permit = s.permit := rfl
@[simp] theorem State.setWheel_learn (s : State) (p : Pos) (r : WheelRecord) : (s.setWheel p r).learn = s.learn := rfl
@[simp] theorem State.setWheel_vehicle (s : State) (p : Pos) (r : WheelRecord) : (s.setWheel p r).vehicle = s.vehicle := rfl
@[simp] theorem State.setWheel_config (s : State) (p : Pos) (r : WheelRecord) : (s.setWheel p r).config = s.config := rfl
@[simp] theorem State.setWheel_supply (s : State) (p : Pos) (r : WheelRecord) : (s.setWheel p r).supply = s.supply := rfl
@[simp] theorem State.setWheel_uptime (s : State) (p : Pos) (r : WheelRecord) : (s.setWheel p r).uptime = s.uptime := rfl
@[simp] theorem State.setWheel_store (s : State) (p : Pos) (r : WheelRecord) : (s.setWheel p r).store = s.store := rfl
@[simp] theorem State.setWheel_nonvolatile (s : State) (p : Pos) (r : WheelRecord) : (s.setWheel p r).nonvolatile = s.nonvolatile := rfl
@[simp] theorem State.setWheel_portA (s : State) (p : Pos) (r : WheelRecord) : (s.setWheel p r).portA = s.portA := rfl
@[simp] theorem State.setWheel_portB (s : State) (p : Pos) (r : WheelRecord) : (s.setWheel p r).portB = s.portB := rfl
@[simp] theorem State.setWheel_freeIndex (s : State) (p : Pos) (r : WheelRecord) : (s.setWheel p r).freeIndex = s.freeIndex := rfl
@[simp] theorem State.setWheel_slotId (s : State) (p : Pos) (r : WheelRecord) (p' : Pos) : (s.setWheel p r).slotId p' = s.slotId p' := rfl
@[simp] theorem State.setWheel_lookup (s : State) (p : Pos) (r : WheelRecord) (i : SensorId) : (s.setWheel p r).lookup i = s.lookup i := rfl
@[simp] theorem State.setWheel_axle (s : State) (p : Pos) (r : WheelRecord) (a : Fin 10) : (s.setWheel p r).axle a = s.axle a := rfl
@[simp] theorem State.setWheel_loading (s : State) (p : Pos) (r : WheelRecord) : (s.setWheel p r).loading = s.loading := rfl

/-! ## modWheel -/

@[simp] theorem State.modWheel_pending (s : State) (p : Pos) (f : WheelRecord → WheelRecord) : (s.modWheel p f).pending = s.pending := rfl
@[simp] theorem State.modWheel_rx0 (s : State) (p : Pos) (f : WheelRecord → WheelRecord) : (s.modWheel p f).rx0 = s.rx0 := rfl
@[simp] theorem State.modWheel_rx1 (s : State) (p : Pos) (f : WheelRecord → WheelRecord) : (s.modWheel p f).rx1 = s.rx1 := rfl
@[simp] theorem State.modWheel_queue (s : State) (p : Pos) (f : WheelRecord → WheelRecord) : (s.modWheel p f).queue = s.queue := rfl
@[simp] theorem State.modWheel_lostPending (s : State) (p : Pos) (f : WheelRecord → WheelRecord) : (s.modWheel p f).lostPending = s.lostPending := rfl
@[simp] theorem State.modWheel_axles (s : State) (p : Pos) (f : WheelRecord → WheelRecord) : (s.modWheel p f).axles = s.axles := rfl
@[simp] theorem State.modWheel_slots (s : State) (p : Pos) (f : WheelRecord → WheelRecord) : (s.modWheel p f).slots = s.slots := rfl
@[simp] theorem State.modWheel_protect (s : State) (p : Pos) (f : WheelRecord → WheelRecord) : (s.modWheel p f).protect = s.protect := rfl
@[simp] theorem State.modWheel_generation (s : State) (p : Pos) (f : WheelRecord → WheelRecord) : (s.modWheel p f).generation = s.generation := rfl
@[simp] theorem State.modWheel_profiles (s : State) (p : Pos) (f : WheelRecord → WheelRecord) : (s.modWheel p f).profiles = s.profiles := rfl
@[simp] theorem State.modWheel_alerts (s : State) (p : Pos) (f : WheelRecord → WheelRecord) : (s.modWheel p f).alerts = s.alerts := rfl
@[simp] theorem State.modWheel_permit (s : State) (p : Pos) (f : WheelRecord → WheelRecord) : (s.modWheel p f).permit = s.permit := rfl
@[simp] theorem State.modWheel_learn (s : State) (p : Pos) (f : WheelRecord → WheelRecord) : (s.modWheel p f).learn = s.learn := rfl
@[simp] theorem State.modWheel_vehicle (s : State) (p : Pos) (f : WheelRecord → WheelRecord) : (s.modWheel p f).vehicle = s.vehicle := rfl
@[simp] theorem State.modWheel_config (s : State) (p : Pos) (f : WheelRecord → WheelRecord) : (s.modWheel p f).config = s.config := rfl
@[simp] theorem State.modWheel_supply (s : State) (p : Pos) (f : WheelRecord → WheelRecord) : (s.modWheel p f).supply = s.supply := rfl
@[simp] theorem State.modWheel_uptime (s : State) (p : Pos) (f : WheelRecord → WheelRecord) : (s.modWheel p f).uptime = s.uptime := rfl
@[simp] theorem State.modWheel_store (s : State) (p : Pos) (f : WheelRecord → WheelRecord) : (s.modWheel p f).store = s.store := rfl
@[simp] theorem State.modWheel_nonvolatile (s : State) (p : Pos) (f : WheelRecord → WheelRecord) : (s.modWheel p f).nonvolatile = s.nonvolatile := rfl
@[simp] theorem State.modWheel_portA (s : State) (p : Pos) (f : WheelRecord → WheelRecord) : (s.modWheel p f).portA = s.portA := rfl
@[simp] theorem State.modWheel_portB (s : State) (p : Pos) (f : WheelRecord → WheelRecord) : (s.modWheel p f).portB = s.portB := rfl
@[simp] theorem State.modWheel_freeIndex (s : State) (p : Pos) (f : WheelRecord → WheelRecord) : (s.modWheel p f).freeIndex = s.freeIndex := rfl
@[simp] theorem State.modWheel_slotId (s : State) (p : Pos) (f : WheelRecord → WheelRecord) (p' : Pos) : (s.modWheel p f).slotId p' = s.slotId p' := rfl
@[simp] theorem State.modWheel_lookup (s : State) (p : Pos) (f : WheelRecord → WheelRecord) (i : SensorId) : (s.modWheel p f).lookup i = s.lookup i := rfl
@[simp] theorem State.modWheel_axle (s : State) (p : Pos) (f : WheelRecord → WheelRecord) (a : Fin 10) : (s.modWheel p f).axle a = s.axle a := rfl
@[simp] theorem State.modWheel_loading (s : State) (p : Pos) (f : WheelRecord → WheelRecord) : (s.modWheel p f).loading = s.loading := rfl

/-! ## setSlot -/

@[simp] theorem State.setSlot_pending (s : State) (p : Pos) (id : Option SensorId) : (s.setSlot p id).pending = s.pending := rfl
@[simp] theorem State.setSlot_rx0 (s : State) (p : Pos) (id : Option SensorId) : (s.setSlot p id).rx0 = s.rx0 := rfl
@[simp] theorem State.setSlot_rx1 (s : State) (p : Pos) (id : Option SensorId) : (s.setSlot p id).rx1 = s.rx1 := rfl
@[simp] theorem State.setSlot_queue (s : State) (p : Pos) (id : Option SensorId) : (s.setSlot p id).queue = s.queue := rfl
@[simp] theorem State.setSlot_lostPending (s : State) (p : Pos) (id : Option SensorId) : (s.setSlot p id).lostPending = s.lostPending := rfl
@[simp] theorem State.setSlot_axles (s : State) (p : Pos) (id : Option SensorId) : (s.setSlot p id).axles = s.axles := rfl
@[simp] theorem State.setSlot_protect (s : State) (p : Pos) (id : Option SensorId) : (s.setSlot p id).protect = s.protect := rfl
@[simp] theorem State.setSlot_generation (s : State) (p : Pos) (id : Option SensorId) : (s.setSlot p id).generation = s.generation := rfl
@[simp] theorem State.setSlot_profiles (s : State) (p : Pos) (id : Option SensorId) : (s.setSlot p id).profiles = s.profiles := rfl
@[simp] theorem State.setSlot_wheels (s : State) (p : Pos) (id : Option SensorId) : (s.setSlot p id).wheels = s.wheels := rfl
@[simp] theorem State.setSlot_alerts (s : State) (p : Pos) (id : Option SensorId) : (s.setSlot p id).alerts = s.alerts := rfl
@[simp] theorem State.setSlot_permit (s : State) (p : Pos) (id : Option SensorId) : (s.setSlot p id).permit = s.permit := rfl
@[simp] theorem State.setSlot_learn (s : State) (p : Pos) (id : Option SensorId) : (s.setSlot p id).learn = s.learn := rfl
@[simp] theorem State.setSlot_vehicle (s : State) (p : Pos) (id : Option SensorId) : (s.setSlot p id).vehicle = s.vehicle := rfl
@[simp] theorem State.setSlot_config (s : State) (p : Pos) (id : Option SensorId) : (s.setSlot p id).config = s.config := rfl
@[simp] theorem State.setSlot_supply (s : State) (p : Pos) (id : Option SensorId) : (s.setSlot p id).supply = s.supply := rfl
@[simp] theorem State.setSlot_uptime (s : State) (p : Pos) (id : Option SensorId) : (s.setSlot p id).uptime = s.uptime := rfl
@[simp] theorem State.setSlot_store (s : State) (p : Pos) (id : Option SensorId) : (s.setSlot p id).store = s.store := rfl
@[simp] theorem State.setSlot_nonvolatile (s : State) (p : Pos) (id : Option SensorId) : (s.setSlot p id).nonvolatile = s.nonvolatile := rfl
@[simp] theorem State.setSlot_portA (s : State) (p : Pos) (id : Option SensorId) : (s.setSlot p id).portA = s.portA := rfl
@[simp] theorem State.setSlot_portB (s : State) (p : Pos) (id : Option SensorId) : (s.setSlot p id).portB = s.portB := rfl
@[simp] theorem State.setSlot_freeIndex (s : State) (p : Pos) (id : Option SensorId) : (s.setSlot p id).freeIndex = s.freeIndex := rfl
@[simp] theorem State.setSlot_wheel (s : State) (p : Pos) (id : Option SensorId) (p' : Pos) : (s.setSlot p id).wheel p' = s.wheel p' := rfl
@[simp] theorem State.setSlot_axle (s : State) (p : Pos) (id : Option SensorId) (a : Fin 10) : (s.setSlot p id).axle a = s.axle a := rfl
@[simp] theorem State.setSlot_loading (s : State) (p : Pos) (id : Option SensorId) : (s.setSlot p id).loading = s.loading := rfl

/-! ## setPort -/

@[simp] theorem State.setPort_pending (s : State) (q : PortId) (x : Port) : (s.setPort q x).pending = s.pending := by cases q <;> rfl
@[simp] theorem State.setPort_rx0 (s : State) (q : PortId) (x : Port) : (s.setPort q x).rx0 = s.rx0 := by cases q <;> rfl
@[simp] theorem State.setPort_rx1 (s : State) (q : PortId) (x : Port) : (s.setPort q x).rx1 = s.rx1 := by cases q <;> rfl
@[simp] theorem State.setPort_queue (s : State) (q : PortId) (x : Port) : (s.setPort q x).queue = s.queue := by cases q <;> rfl
@[simp] theorem State.setPort_lostPending (s : State) (q : PortId) (x : Port) : (s.setPort q x).lostPending = s.lostPending := by cases q <;> rfl
@[simp] theorem State.setPort_axles (s : State) (q : PortId) (x : Port) : (s.setPort q x).axles = s.axles := by cases q <;> rfl
@[simp] theorem State.setPort_slots (s : State) (q : PortId) (x : Port) : (s.setPort q x).slots = s.slots := by cases q <;> rfl
@[simp] theorem State.setPort_protect (s : State) (q : PortId) (x : Port) : (s.setPort q x).protect = s.protect := by cases q <;> rfl
@[simp] theorem State.setPort_generation (s : State) (q : PortId) (x : Port) : (s.setPort q x).generation = s.generation := by cases q <;> rfl
@[simp] theorem State.setPort_profiles (s : State) (q : PortId) (x : Port) : (s.setPort q x).profiles = s.profiles := by cases q <;> rfl
@[simp] theorem State.setPort_wheels (s : State) (q : PortId) (x : Port) : (s.setPort q x).wheels = s.wheels := by cases q <;> rfl
@[simp] theorem State.setPort_alerts (s : State) (q : PortId) (x : Port) : (s.setPort q x).alerts = s.alerts := by cases q <;> rfl
@[simp] theorem State.setPort_permit (s : State) (q : PortId) (x : Port) : (s.setPort q x).permit = s.permit := by cases q <;> rfl
@[simp] theorem State.setPort_learn (s : State) (q : PortId) (x : Port) : (s.setPort q x).learn = s.learn := by cases q <;> rfl
@[simp] theorem State.setPort_vehicle (s : State) (q : PortId) (x : Port) : (s.setPort q x).vehicle = s.vehicle := by cases q <;> rfl
@[simp] theorem State.setPort_config (s : State) (q : PortId) (x : Port) : (s.setPort q x).config = s.config := by cases q <;> rfl
@[simp] theorem State.setPort_supply (s : State) (q : PortId) (x : Port) : (s.setPort q x).supply = s.supply := by cases q <;> rfl
@[simp] theorem State.setPort_uptime (s : State) (q : PortId) (x : Port) : (s.setPort q x).uptime = s.uptime := by cases q <;> rfl
@[simp] theorem State.setPort_store (s : State) (q : PortId) (x : Port) : (s.setPort q x).store = s.store := by cases q <;> rfl
@[simp] theorem State.setPort_nonvolatile (s : State) (q : PortId) (x : Port) : (s.setPort q x).nonvolatile = s.nonvolatile := by cases q <;> rfl
@[simp] theorem State.setPort_freeIndex (s : State) (q : PortId) (x : Port) : (s.setPort q x).freeIndex = s.freeIndex := by cases q <;> rfl
@[simp] theorem State.setPort_wheel (s : State) (q : PortId) (x : Port) (p' : Pos) : (s.setPort q x).wheel p' = s.wheel p' := by cases q <;> rfl
@[simp] theorem State.setPort_slotId (s : State) (q : PortId) (x : Port) (p' : Pos) : (s.setPort q x).slotId p' = s.slotId p' := by cases q <;> rfl
@[simp] theorem State.setPort_lookup (s : State) (q : PortId) (x : Port) (i : SensorId) : (s.setPort q x).lookup i = s.lookup i := by cases q <;> rfl
@[simp] theorem State.setPort_axle (s : State) (q : PortId) (x : Port) (a : Fin 10) : (s.setPort q x).axle a = s.axle a := by cases q <;> rfl
@[simp] theorem State.setPort_loading (s : State) (q : PortId) (x : Port) : (s.setPort q x).loading = s.loading := by cases q <;> rfl

/-! ## answer -/

@[simp] theorem State.answer_pending (s : State) (q : PortId) (st : Status) (bs : List Byte) : (s.answer q st bs).pending = s.pending := by cases q <;> rfl
@[simp] theorem State.answer_rx0 (s : State) (q : PortId) (st : Status) (bs : List Byte) : (s.answer q st bs).rx0 = s.rx0 := by cases q <;> rfl
@[simp] theorem State.answer_rx1 (s : State) (q : PortId) (st : Status) (bs : List Byte) : (s.answer q st bs).rx1 = s.rx1 := by cases q <;> rfl
@[simp] theorem State.answer_queue (s : State) (q : PortId) (st : Status) (bs : List Byte) : (s.answer q st bs).queue = s.queue := by cases q <;> rfl
@[simp] theorem State.answer_lostPending (s : State) (q : PortId) (st : Status) (bs : List Byte) : (s.answer q st bs).lostPending = s.lostPending := by cases q <;> rfl
@[simp] theorem State.answer_axles (s : State) (q : PortId) (st : Status) (bs : List Byte) : (s.answer q st bs).axles = s.axles := by cases q <;> rfl
@[simp] theorem State.answer_slots (s : State) (q : PortId) (st : Status) (bs : List Byte) : (s.answer q st bs).slots = s.slots := by cases q <;> rfl
@[simp] theorem State.answer_protect (s : State) (q : PortId) (st : Status) (bs : List Byte) : (s.answer q st bs).protect = s.protect := by cases q <;> rfl
@[simp] theorem State.answer_generation (s : State) (q : PortId) (st : Status) (bs : List Byte) : (s.answer q st bs).generation = s.generation := by cases q <;> rfl
@[simp] theorem State.answer_profiles (s : State) (q : PortId) (st : Status) (bs : List Byte) : (s.answer q st bs).profiles = s.profiles := by cases q <;> rfl
@[simp] theorem State.answer_wheels (s : State) (q : PortId) (st : Status) (bs : List Byte) : (s.answer q st bs).wheels = s.wheels := by cases q <;> rfl
@[simp] theorem State.answer_alerts (s : State) (q : PortId) (st : Status) (bs : List Byte) : (s.answer q st bs).alerts = s.alerts := by cases q <;> rfl
@[simp] theorem State.answer_permit (s : State) (q : PortId) (st : Status) (bs : List Byte) : (s.answer q st bs).permit = s.permit := by cases q <;> rfl
@[simp] theorem State.answer_learn (s : State) (q : PortId) (st : Status) (bs : List Byte) : (s.answer q st bs).learn = s.learn := by cases q <;> rfl
@[simp] theorem State.answer_vehicle (s : State) (q : PortId) (st : Status) (bs : List Byte) : (s.answer q st bs).vehicle = s.vehicle := by cases q <;> rfl
@[simp] theorem State.answer_config (s : State) (q : PortId) (st : Status) (bs : List Byte) : (s.answer q st bs).config = s.config := by cases q <;> rfl
@[simp] theorem State.answer_supply (s : State) (q : PortId) (st : Status) (bs : List Byte) : (s.answer q st bs).supply = s.supply := by cases q <;> rfl
@[simp] theorem State.answer_uptime (s : State) (q : PortId) (st : Status) (bs : List Byte) : (s.answer q st bs).uptime = s.uptime := by cases q <;> rfl
@[simp] theorem State.answer_store (s : State) (q : PortId) (st : Status) (bs : List Byte) : (s.answer q st bs).store = s.store := by cases q <;> rfl
@[simp] theorem State.answer_nonvolatile (s : State) (q : PortId) (st : Status) (bs : List Byte) : (s.answer q st bs).nonvolatile = s.nonvolatile := by cases q <;> rfl
@[simp] theorem State.answer_freeIndex (s : State) (q : PortId) (st : Status) (bs : List Byte) : (s.answer q st bs).freeIndex = s.freeIndex := by cases q <;> rfl
@[simp] theorem State.answer_wheel (s : State) (q : PortId) (st : Status) (bs : List Byte) (p' : Pos) : (s.answer q st bs).wheel p' = s.wheel p' := by cases q <;> rfl
@[simp] theorem State.answer_slotId (s : State) (q : PortId) (st : Status) (bs : List Byte) (p' : Pos) : (s.answer q st bs).slotId p' = s.slotId p' := by cases q <;> rfl
@[simp] theorem State.answer_lookup (s : State) (q : PortId) (st : Status) (bs : List Byte) (i : SensorId) : (s.answer q st bs).lookup i = s.lookup i := by cases q <;> rfl
@[simp] theorem State.answer_axle (s : State) (q : PortId) (st : Status) (bs : List Byte) (a : Fin 10) : (s.answer q st bs).axle a = s.axle a := by cases q <;> rfl
@[simp] theorem State.answer_loading (s : State) (q : PortId) (st : Status) (bs : List Byte) : (s.answer q st bs).loading = s.loading := by cases q <;> rfl

/-! ## refuse -/

@[simp] theorem State.refuse_pending (s : State) (q : PortId) (st : Status) : (s.refuse q st).pending = s.pending := by cases q <;> rfl
@[simp] theorem State.refuse_rx0 (s : State) (q : PortId) (st : Status) : (s.refuse q st).rx0 = s.rx0 := by cases q <;> rfl
@[simp] theorem State.refuse_rx1 (s : State) (q : PortId) (st : Status) : (s.refuse q st).rx1 = s.rx1 := by cases q <;> rfl
@[simp] theorem State.refuse_queue (s : State) (q : PortId) (st : Status) : (s.refuse q st).queue = s.queue := by cases q <;> rfl
@[simp] theorem State.refuse_lostPending (s : State) (q : PortId) (st : Status) : (s.refuse q st).lostPending = s.lostPending := by cases q <;> rfl
@[simp] theorem State.refuse_axles (s : State) (q : PortId) (st : Status) : (s.refuse q st).axles = s.axles := by cases q <;> rfl
@[simp] theorem State.refuse_slots (s : State) (q : PortId) (st : Status) : (s.refuse q st).slots = s.slots := by cases q <;> rfl
@[simp] theorem State.refuse_protect (s : State) (q : PortId) (st : Status) : (s.refuse q st).protect = s.protect := by cases q <;> rfl
@[simp] theorem State.refuse_generation (s : State) (q : PortId) (st : Status) : (s.refuse q st).generation = s.generation := by cases q <;> rfl
@[simp] theorem State.refuse_profiles (s : State) (q : PortId) (st : Status) : (s.refuse q st).profiles = s.profiles := by cases q <;> rfl
@[simp] theorem State.refuse_wheels (s : State) (q : PortId) (st : Status) : (s.refuse q st).wheels = s.wheels := by cases q <;> rfl
@[simp] theorem State.refuse_alerts (s : State) (q : PortId) (st : Status) : (s.refuse q st).alerts = s.alerts := by cases q <;> rfl
@[simp] theorem State.refuse_permit (s : State) (q : PortId) (st : Status) : (s.refuse q st).permit = s.permit := by cases q <;> rfl
@[simp] theorem State.refuse_learn (s : State) (q : PortId) (st : Status) : (s.refuse q st).learn = s.learn := by cases q <;> rfl
@[simp] theorem State.refuse_vehicle (s : State) (q : PortId) (st : Status) : (s.refuse q st).vehicle = s.vehicle := by cases q <;> rfl
@[simp] theorem State.refuse_config (s : State) (q : PortId) (st : Status) : (s.refuse q st).config = s.config := by cases q <;> rfl
@[simp] theorem State.refuse_supply (s : State) (q : PortId) (st : Status) : (s.refuse q st).supply = s.supply := by cases q <;> rfl
@[simp] theorem State.refuse_uptime (s : State) (q : PortId) (st : Status) : (s.refuse q st).uptime = s.uptime := by cases q <;> rfl
@[simp] theorem State.refuse_store (s : State) (q : PortId) (st : Status) : (s.refuse q st).store = s.store := by cases q <;> rfl
@[simp] theorem State.refuse_nonvolatile (s : State) (q : PortId) (st : Status) : (s.refuse q st).nonvolatile = s.nonvolatile := by cases q <;> rfl
@[simp] theorem State.refuse_freeIndex (s : State) (q : PortId) (st : Status) : (s.refuse q st).freeIndex = s.freeIndex := by cases q <;> rfl
@[simp] theorem State.refuse_wheel (s : State) (q : PortId) (st : Status) (p' : Pos) : (s.refuse q st).wheel p' = s.wheel p' := by cases q <;> rfl
@[simp] theorem State.refuse_slotId (s : State) (q : PortId) (st : Status) (p' : Pos) : (s.refuse q st).slotId p' = s.slotId p' := by cases q <;> rfl
@[simp] theorem State.refuse_lookup (s : State) (q : PortId) (st : Status) (i : SensorId) : (s.refuse q st).lookup i = s.lookup i := by cases q <;> rfl
@[simp] theorem State.refuse_axle (s : State) (q : PortId) (st : Status) (a : Fin 10) : (s.refuse q st).axle a = s.axle a := by cases q <;> rfl
@[simp] theorem State.refuse_loading (s : State) (q : PortId) (st : Status) : (s.refuse q st).loading = s.loading := by cases q <;> rfl

/-! ## setFlag -/

@[simp] theorem State.setFlag_pending (s : State) (q : PortId) (e : EventFlag) : (s.setFlag q e).pending = s.pending := by cases q <;> rfl
@[simp] theorem State.setFlag_rx0 (s : State) (q : PortId) (e : EventFlag) : (s.setFlag q e).rx0 = s.rx0 := by cases q <;> rfl
@[simp] theorem State.setFlag_rx1 (s : State) (q : PortId) (e : EventFlag) : (s.setFlag q e).rx1 = s.rx1 := by cases q <;> rfl
@[simp] theorem State.setFlag_queue (s : State) (q : PortId) (e : EventFlag) : (s.setFlag q e).queue = s.queue := by cases q <;> rfl
@[simp] theorem State.setFlag_lostPending (s : State) (q : PortId) (e : EventFlag) : (s.setFlag q e).lostPending = s.lostPending := by cases q <;> rfl
@[simp] theorem State.setFlag_axles (s : State) (q : PortId) (e : EventFlag) : (s.setFlag q e).axles = s.axles := by cases q <;> rfl
@[simp] theorem State.setFlag_slots (s : State) (q : PortId) (e : EventFlag) : (s.setFlag q e).slots = s.slots := by cases q <;> rfl
@[simp] theorem State.setFlag_protect (s : State) (q : PortId) (e : EventFlag) : (s.setFlag q e).protect = s.protect := by cases q <;> rfl
@[simp] theorem State.setFlag_generation (s : State) (q : PortId) (e : EventFlag) : (s.setFlag q e).generation = s.generation := by cases q <;> rfl
@[simp] theorem State.setFlag_profiles (s : State) (q : PortId) (e : EventFlag) : (s.setFlag q e).profiles = s.profiles := by cases q <;> rfl
@[simp] theorem State.setFlag_wheels (s : State) (q : PortId) (e : EventFlag) : (s.setFlag q e).wheels = s.wheels := by cases q <;> rfl
@[simp] theorem State.setFlag_alerts (s : State) (q : PortId) (e : EventFlag) : (s.setFlag q e).alerts = s.alerts := by cases q <;> rfl
@[simp] theorem State.setFlag_permit (s : State) (q : PortId) (e : EventFlag) : (s.setFlag q e).permit = s.permit := by cases q <;> rfl
@[simp] theorem State.setFlag_learn (s : State) (q : PortId) (e : EventFlag) : (s.setFlag q e).learn = s.learn := by cases q <;> rfl
@[simp] theorem State.setFlag_vehicle (s : State) (q : PortId) (e : EventFlag) : (s.setFlag q e).vehicle = s.vehicle := by cases q <;> rfl
@[simp] theorem State.setFlag_config (s : State) (q : PortId) (e : EventFlag) : (s.setFlag q e).config = s.config := by cases q <;> rfl
@[simp] theorem State.setFlag_supply (s : State) (q : PortId) (e : EventFlag) : (s.setFlag q e).supply = s.supply := by cases q <;> rfl
@[simp] theorem State.setFlag_uptime (s : State) (q : PortId) (e : EventFlag) : (s.setFlag q e).uptime = s.uptime := by cases q <;> rfl
@[simp] theorem State.setFlag_store (s : State) (q : PortId) (e : EventFlag) : (s.setFlag q e).store = s.store := by cases q <;> rfl
@[simp] theorem State.setFlag_nonvolatile (s : State) (q : PortId) (e : EventFlag) : (s.setFlag q e).nonvolatile = s.nonvolatile := by cases q <;> rfl
@[simp] theorem State.setFlag_freeIndex (s : State) (q : PortId) (e : EventFlag) : (s.setFlag q e).freeIndex = s.freeIndex := by cases q <;> rfl
@[simp] theorem State.setFlag_wheel (s : State) (q : PortId) (e : EventFlag) (p' : Pos) : (s.setFlag q e).wheel p' = s.wheel p' := by cases q <;> rfl
@[simp] theorem State.setFlag_slotId (s : State) (q : PortId) (e : EventFlag) (p' : Pos) : (s.setFlag q e).slotId p' = s.slotId p' := by cases q <;> rfl
@[simp] theorem State.setFlag_lookup (s : State) (q : PortId) (e : EventFlag) (i : SensorId) : (s.setFlag q e).lookup i = s.lookup i := by cases q <;> rfl
@[simp] theorem State.setFlag_axle (s : State) (q : PortId) (e : EventFlag) (a : Fin 10) : (s.setFlag q e).axle a = s.axle a := by cases q <;> rfl
@[simp] theorem State.setFlag_loading (s : State) (q : PortId) (e : EventFlag) : (s.setFlag q e).loading = s.loading := by cases q <;> rfl

/-! ## setFlagBoth -/

@[simp] theorem State.setFlagBoth_pending (s : State) (e : EventFlag) : (s.setFlagBoth e).pending = s.pending := rfl
@[simp] theorem State.setFlagBoth_rx0 (s : State) (e : EventFlag) : (s.setFlagBoth e).rx0 = s.rx0 := rfl
@[simp] theorem State.setFlagBoth_rx1 (s : State) (e : EventFlag) : (s.setFlagBoth e).rx1 = s.rx1 := rfl
@[simp] theorem State.setFlagBoth_queue (s : State) (e : EventFlag) : (s.setFlagBoth e).queue = s.queue := rfl
@[simp] theorem State.setFlagBoth_lostPending (s : State) (e : EventFlag) : (s.setFlagBoth e).lostPending = s.lostPending := rfl
@[simp] theorem State.setFlagBoth_axles (s : State) (e : EventFlag) : (s.setFlagBoth e).axles = s.axles := rfl
@[simp] theorem State.setFlagBoth_slots (s : State) (e : EventFlag) : (s.setFlagBoth e).slots = s.slots := rfl
@[simp] theorem State.setFlagBoth_protect (s : State) (e : EventFlag) : (s.setFlagBoth e).protect = s.protect := rfl
@[simp] theorem State.setFlagBoth_generation (s : State) (e : EventFlag) : (s.setFlagBoth e).generation = s.generation := rfl
@[simp] theorem State.setFlagBoth_profiles (s : State) (e : EventFlag) : (s.setFlagBoth e).profiles = s.profiles := rfl
@[simp] theorem State.setFlagBoth_wheels (s : State) (e : EventFlag) : (s.setFlagBoth e).wheels = s.wheels := rfl
@[simp] theorem State.setFlagBoth_alerts (s : State) (e : EventFlag) : (s.setFlagBoth e).alerts = s.alerts := rfl
@[simp] theorem State.setFlagBoth_permit (s : State) (e : EventFlag) : (s.setFlagBoth e).permit = s.permit := rfl
@[simp] theorem State.setFlagBoth_learn (s : State) (e : EventFlag) : (s.setFlagBoth e).learn = s.learn := rfl
@[simp] theorem State.setFlagBoth_vehicle (s : State) (e : EventFlag) : (s.setFlagBoth e).vehicle = s.vehicle := rfl
@[simp] theorem State.setFlagBoth_config (s : State) (e : EventFlag) : (s.setFlagBoth e).config = s.config := rfl
@[simp] theorem State.setFlagBoth_supply (s : State) (e : EventFlag) : (s.setFlagBoth e).supply = s.supply := rfl
@[simp] theorem State.setFlagBoth_uptime (s : State) (e : EventFlag) : (s.setFlagBoth e).uptime = s.uptime := rfl
@[simp] theorem State.setFlagBoth_store (s : State) (e : EventFlag) : (s.setFlagBoth e).store = s.store := rfl
@[simp] theorem State.setFlagBoth_nonvolatile (s : State) (e : EventFlag) : (s.setFlagBoth e).nonvolatile = s.nonvolatile := rfl
@[simp] theorem State.setFlagBoth_freeIndex (s : State) (e : EventFlag) : (s.setFlagBoth e).freeIndex = s.freeIndex := rfl
@[simp] theorem State.setFlagBoth_wheel (s : State) (e : EventFlag) (p' : Pos) : (s.setFlagBoth e).wheel p' = s.wheel p' := rfl
@[simp] theorem State.setFlagBoth_slotId (s : State) (e : EventFlag) (p' : Pos) : (s.setFlagBoth e).slotId p' = s.slotId p' := rfl
@[simp] theorem State.setFlagBoth_lookup (s : State) (e : EventFlag) (i : SensorId) : (s.setFlagBoth e).lookup i = s.lookup i := rfl
@[simp] theorem State.setFlagBoth_axle (s : State) (e : EventFlag) (a : Fin 10) : (s.setFlagBoth e).axle a = s.axle a := rfl
@[simp] theorem State.setFlagBoth_loading (s : State) (e : EventFlag) : (s.setFlagBoth e).loading = s.loading := rfl

/-! ## setFlagIf -/

@[simp] theorem State.setFlagIf_pending (s : State) (c : Bool) (e : EventFlag) : (s.setFlagIf c e).pending = s.pending := by cases c <;> rfl
@[simp] theorem State.setFlagIf_rx0 (s : State) (c : Bool) (e : EventFlag) : (s.setFlagIf c e).rx0 = s.rx0 := by cases c <;> rfl
@[simp] theorem State.setFlagIf_rx1 (s : State) (c : Bool) (e : EventFlag) : (s.setFlagIf c e).rx1 = s.rx1 := by cases c <;> rfl
@[simp] theorem State.setFlagIf_queue (s : State) (c : Bool) (e : EventFlag) : (s.setFlagIf c e).queue = s.queue := by cases c <;> rfl
@[simp] theorem State.setFlagIf_lostPending (s : State) (c : Bool) (e : EventFlag) : (s.setFlagIf c e).lostPending = s.lostPending := by cases c <;> rfl
@[simp] theorem State.setFlagIf_axles (s : State) (c : Bool) (e : EventFlag) : (s.setFlagIf c e).axles = s.axles := by cases c <;> rfl
@[simp] theorem State.setFlagIf_slots (s : State) (c : Bool) (e : EventFlag) : (s.setFlagIf c e).slots = s.slots := by cases c <;> rfl
@[simp] theorem State.setFlagIf_protect (s : State) (c : Bool) (e : EventFlag) : (s.setFlagIf c e).protect = s.protect := by cases c <;> rfl
@[simp] theorem State.setFlagIf_generation (s : State) (c : Bool) (e : EventFlag) : (s.setFlagIf c e).generation = s.generation := by cases c <;> rfl
@[simp] theorem State.setFlagIf_profiles (s : State) (c : Bool) (e : EventFlag) : (s.setFlagIf c e).profiles = s.profiles := by cases c <;> rfl
@[simp] theorem State.setFlagIf_wheels (s : State) (c : Bool) (e : EventFlag) : (s.setFlagIf c e).wheels = s.wheels := by cases c <;> rfl
@[simp] theorem State.setFlagIf_alerts (s : State) (c : Bool) (e : EventFlag) : (s.setFlagIf c e).alerts = s.alerts := by cases c <;> rfl
@[simp] theorem State.setFlagIf_permit (s : State) (c : Bool) (e : EventFlag) : (s.setFlagIf c e).permit = s.permit := by cases c <;> rfl
@[simp] theorem State.setFlagIf_learn (s : State) (c : Bool) (e : EventFlag) : (s.setFlagIf c e).learn = s.learn := by cases c <;> rfl
@[simp] theorem State.setFlagIf_vehicle (s : State) (c : Bool) (e : EventFlag) : (s.setFlagIf c e).vehicle = s.vehicle := by cases c <;> rfl
@[simp] theorem State.setFlagIf_config (s : State) (c : Bool) (e : EventFlag) : (s.setFlagIf c e).config = s.config := by cases c <;> rfl
@[simp] theorem State.setFlagIf_supply (s : State) (c : Bool) (e : EventFlag) : (s.setFlagIf c e).supply = s.supply := by cases c <;> rfl
@[simp] theorem State.setFlagIf_uptime (s : State) (c : Bool) (e : EventFlag) : (s.setFlagIf c e).uptime = s.uptime := by cases c <;> rfl
@[simp] theorem State.setFlagIf_store (s : State) (c : Bool) (e : EventFlag) : (s.setFlagIf c e).store = s.store := by cases c <;> rfl
@[simp] theorem State.setFlagIf_nonvolatile (s : State) (c : Bool) (e : EventFlag) : (s.setFlagIf c e).nonvolatile = s.nonvolatile := by cases c <;> rfl
@[simp] theorem State.setFlagIf_freeIndex (s : State) (c : Bool) (e : EventFlag) : (s.setFlagIf c e).freeIndex = s.freeIndex := by cases c <;> rfl
@[simp] theorem State.setFlagIf_wheel (s : State) (c : Bool) (e : EventFlag) (p' : Pos) : (s.setFlagIf c e).wheel p' = s.wheel p' := by cases c <;> rfl
@[simp] theorem State.setFlagIf_slotId (s : State) (c : Bool) (e : EventFlag) (p' : Pos) : (s.setFlagIf c e).slotId p' = s.slotId p' := by cases c <;> rfl
@[simp] theorem State.setFlagIf_lookup (s : State) (c : Bool) (e : EventFlag) (i : SensorId) : (s.setFlagIf c e).lookup i = s.lookup i := by cases c <;> rfl
@[simp] theorem State.setFlagIf_axle (s : State) (c : Bool) (e : EventFlag) (a : Fin 10) : (s.setFlagIf c e).axle a = s.axle a := by cases c <;> rfl
@[simp] theorem State.setFlagIf_loading (s : State) (c : Bool) (e : EventFlag) : (s.setFlagIf c e).loading = s.loading := by cases c <;> rfl

/-! ## setReceiver -/

@[simp] theorem State.setReceiver_pending (s : State) (ch : Channel) (r : Receiver) : (s.setReceiver ch r).pending = s.pending := by cases ch <;> rfl
@[simp] theorem State.setReceiver_queue (s : State) (ch : Channel) (r : Receiver) : (s.setReceiver ch r).queue = s.queue := by cases ch <;> rfl
@[simp] theorem State.setReceiver_lostPending (s : State) (ch : Channel) (r : Receiver) : (s.setReceiver ch r).lostPending = s.lostPending := by cases ch <;> rfl
@[simp] theorem State.setReceiver_axles (s : State) (ch : Channel) (r : Receiver) : (s.setReceiver ch r).axles = s.axles := by cases ch <;> rfl
@[simp] theorem State.setReceiver_slots (s : State) (ch : Channel) (r : Receiver) : (s.setReceiver ch r).slots = s.slots := by cases ch <;> rfl
@[simp] theorem State.setReceiver_protect (s : State) (ch : Channel) (r : Receiver) : (s.setReceiver ch r).protect = s.protect := by cases ch <;> rfl
@[simp] theorem State.setReceiver_generation (s : State) (ch : Channel) (r : Receiver) : (s.setReceiver ch r).generation = s.generation := by cases ch <;> rfl
@[simp] theorem State.setReceiver_profiles (s : State) (ch : Channel) (r : Receiver) : (s.setReceiver ch r).profiles = s.profiles := by cases ch <;> rfl
@[simp] theorem State.setReceiver_wheels (s : State) (ch : Channel) (r : Receiver) : (s.setReceiver ch r).wheels = s.wheels := by cases ch <;> rfl
@[simp] theorem State.setReceiver_alerts (s : State) (ch : Channel) (r : Receiver) : (s.setReceiver ch r).alerts = s.alerts := by cases ch <;> rfl
@[simp] theorem State.setReceiver_permit (s : State) (ch : Channel) (r : Receiver) : (s.setReceiver ch r).permit = s.permit := by cases ch <;> rfl
@[simp] theorem State.setReceiver_learn (s : State) (ch : Channel) (r : Receiver) : (s.setReceiver ch r).learn = s.learn := by cases ch <;> rfl
@[simp] theorem State.setReceiver_vehicle (s : State) (ch : Channel) (r : Receiver) : (s.setReceiver ch r).vehicle = s.vehicle := by cases ch <;> rfl
@[simp] theorem State.setReceiver_config (s : State) (ch : Channel) (r : Receiver) : (s.setReceiver ch r).config = s.config := by cases ch <;> rfl
@[simp] theorem State.setReceiver_supply (s : State) (ch : Channel) (r : Receiver) : (s.setReceiver ch r).supply = s.supply := by cases ch <;> rfl
@[simp] theorem State.setReceiver_uptime (s : State) (ch : Channel) (r : Receiver) : (s.setReceiver ch r).uptime = s.uptime := by cases ch <;> rfl
@[simp] theorem State.setReceiver_store (s : State) (ch : Channel) (r : Receiver) : (s.setReceiver ch r).store = s.store := by cases ch <;> rfl
@[simp] theorem State.setReceiver_nonvolatile (s : State) (ch : Channel) (r : Receiver) : (s.setReceiver ch r).nonvolatile = s.nonvolatile := by cases ch <;> rfl
@[simp] theorem State.setReceiver_portA (s : State) (ch : Channel) (r : Receiver) : (s.setReceiver ch r).portA = s.portA := by cases ch <;> rfl
@[simp] theorem State.setReceiver_portB (s : State) (ch : Channel) (r : Receiver) : (s.setReceiver ch r).portB = s.portB := by cases ch <;> rfl
@[simp] theorem State.setReceiver_freeIndex (s : State) (ch : Channel) (r : Receiver) : (s.setReceiver ch r).freeIndex = s.freeIndex := by cases ch <;> rfl
@[simp] theorem State.setReceiver_wheel (s : State) (ch : Channel) (r : Receiver) (p' : Pos) : (s.setReceiver ch r).wheel p' = s.wheel p' := by cases ch <;> rfl
@[simp] theorem State.setReceiver_slotId (s : State) (ch : Channel) (r : Receiver) (p' : Pos) : (s.setReceiver ch r).slotId p' = s.slotId p' := by cases ch <;> rfl
@[simp] theorem State.setReceiver_lookup (s : State) (ch : Channel) (r : Receiver) (i : SensorId) : (s.setReceiver ch r).lookup i = s.lookup i := by cases ch <;> rfl
@[simp] theorem State.setReceiver_axle (s : State) (ch : Channel) (r : Receiver) (a : Fin 10) : (s.setReceiver ch r).axle a = s.axle a := by cases ch <;> rfl
@[simp] theorem State.setReceiver_loading (s : State) (ch : Channel) (r : Receiver) : (s.setReceiver ch r).loading = s.loading := by cases ch <;> rfl

/-! ## transact, unlessLoading, restart -/

/-- A transaction that no reset cut is taken. -/
@[simp] theorem State.transact_taken {s : State} {q : PortId} (h : (s.port q).cut = false) (f : State → State) :
    s.transact q f = f s := by simp [State.transact, h]

/-- A cut transaction is not taken, and the next one is no longer cut (R167). -/
@[simp] theorem State.transact_cut {s : State} {q : PortId} (h : (s.port q).cut = true) (f : State → State) :
    s.transact q f = s.setPort q { s.port q with cut := false } := by simp [State.transact, h]

/-- What a chip-select rise can do: it is taken, or only the cut is forgotten. -/
theorem State.transact_cases (P : State → Prop) {s : State} {q : PortId} {f : State → State} (taken : P (f s))
    (cut : P (s.setPort q { s.port q with cut := false })) : P (s.transact q f) := by
  unfold State.transact; split
  · exact cut
  · exact taken

theorem State.unlessLoading_busy {s : State} {q : PortId} (h : (s.port q).cut = false) (l : s.loading = true)
    (f : State → State) : s.unlessLoading q f = s.refuse q .busy := by simp [State.unlessLoading, h, l]

theorem State.unlessLoading_taken {s : State} {q : PortId} (h : (s.port q).cut = false) (l : s.loading = false)
    (f : State → State) : s.unlessLoading q f = f s := by simp [State.unlessLoading, h, l]

@[simp] theorem State.answer_cut (s : State) (q r : PortId) (st : Status) (bs : List Byte) :
    ((s.answer q st bs).port r).cut = (s.port r).cut := by cases q <;> cases r <;> rfl
@[simp] theorem State.setFlag_cut (s : State) (q r : PortId) (e : EventFlag) : ((s.setFlag q e).port r).cut = (s.port r).cut := by
  cases q <;> cases r <;> rfl
@[simp] theorem State.setFlagBoth_cut (s : State) (r : PortId) (e : EventFlag) :
    ((s.setFlagBoth e).port r).cut = (s.port r).cut := by simp [State.setFlagBoth]

@[simp] theorem State.restart_port (s : State) (q : PortId) : s.restart.port q = (s.port q).restart := by cases q <;> rfl

end Sys2Proof.Machine
end

