-- ==== Sys2Proof/Laws/Tables.lean ====
section
/-! SUPPORT. Positions, the 40-entry tables, the ID lookup and check lists: one lemma each for what they give. -/

namespace Sys2Proof.Machine

/-! ## Tables -/

@[simp] theorem tabulate_get {α : Type} {n : Nat} (f : Fin n → α) (i : Fin n) : (tabulate f)[i] = f i := by
  simp [tabulate]

@[simp] theorem tabulate_getElem {α : Type} {n : Nat} (f : Fin n → α) (i : Nat) (h : i < n) :
    (tabulate f)[i] = f ⟨i, h⟩ := by
  simp [tabulate]

/-! ## Positions -/

theorem Pos.idx_inj {p q : Pos} (h : p.idx = q.idx) : p = q := by
  obtain ⟨⟨a, ha⟩, ⟨t, ht⟩⟩ := p
  obtain ⟨⟨b, hb⟩, ⟨u, hu⟩⟩ := q
  simp only [Pos.idx, Fin.mk.injEq] at h
  have h1 : a = b := by omega
  have h2 : t = u := by omega
  subst h1; subst h2; rfl

@[simp] theorem Pos.idx_eq {p q : Pos} : p.idx = q.idx ↔ p = q := ⟨Pos.idx_inj, fun h => h ▸ rfl⟩

@[simp] theorem posOfIdx_idx (p : Pos) : posOfIdx p.idx = p := by
  obtain ⟨⟨a, ha⟩, ⟨t, ht⟩⟩ := p
  simp only [posOfIdx, Pos.idx, Pos.mk.injEq, Fin.mk.injEq]
  omega

@[simp] theorem idx_posOfIdx (i : Fin 40) : (posOfIdx i).idx = i := by
  obtain ⟨i, hi⟩ := i
  simp only [posOfIdx, Pos.idx, Fin.mk.injEq]
  omega

theorem mem_axlePositions (p : Pos) : p ∈ axlePositions p.axle := by
  simp only [axlePositions, List.mem_map]
  exact ⟨p.slot, List.mem_finRange _, rfl⟩

@[simp] theorem mem_axlePositions_iff (p : Pos) (a : Fin 10) : p ∈ axlePositions a ↔ p.axle = a := by
  constructor
  · simp only [axlePositions, List.mem_map]
    rintro ⟨t, _, rfl⟩; rfl
  · rintro rfl; exact mem_axlePositions p

@[simp] theorem mem_allPos (p : Pos) : p ∈ allPos := by
  simp only [allPos, List.mem_flatMap]
  exact ⟨p.axle, List.mem_finRange _, mem_axlePositions p⟩

theorem allPos_nodup : allPos.Nodup := by decide +kernel

@[simp] theorem allPos_all (f : Pos → Bool) : allPos.all f = true ↔ ∀ p, f p = true := by
  simp [List.all_eq_true]

@[simp] theorem allPos_any (f : Pos → Bool) : allPos.any f = true ↔ ∃ p, f p = true := by
  simp [List.any_eq_true]

@[simp] theorem Pos.pairLow_axle (p : Pos) : p.pairLow.axle = p.axle := rfl
@[simp] theorem Pos.pairHigh_axle (p : Pos) : p.pairHigh.axle = p.axle := rfl

/-- A position is one of the two of its pair. -/
theorem Pos.eq_pairLow_or_pairHigh (p : Pos) : p = p.pairLow ∨ p = p.pairHigh := by
  obtain ⟨a, ⟨t, ht⟩⟩ := p
  simp only [Pos.pairLow, Pos.pairHigh, Pos.mk.injEq, Fin.mk.injEq, true_and]
  omega

theorem Pos.pairLow_ne_pairHigh (p : Pos) : p.pairLow ≠ p.pairHigh := by
  intro h
  have := congrArg (fun q => q.slot.val) h
  simp [Pos.pairLow, Pos.pairHigh] at this

/-! ## Reading what was written -/

@[simp] theorem State.setWheel_wheel (s : State) (p q : Pos) (r : WheelRecord) :
    (s.setWheel p r).wheel q = if p = q then r else s.wheel q := by
  simp only [State.wheel, State.setWheel, Fin.getElem_fin, Vector.getElem_set]
  by_cases h : p = q
  · simp [h]
  · have : p.idx.val ≠ q.idx.val := fun e => h (Pos.idx_inj (Fin.ext e))
    simp [h, this]

@[simp] theorem State.modWheel_wheel (s : State) (p q : Pos) (f : WheelRecord → WheelRecord) :
    (s.modWheel p f).wheel q = if p = q then f (s.wheel p) else s.wheel q := by
  simp [State.modWheel]

@[simp] theorem State.setSlot_slotId (s : State) (p q : Pos) (id : Option SensorId) :
    (s.setSlot p id).slotId q = if p = q then id else s.slotId q := by
  simp only [State.slotId, State.setSlot, Fin.getElem_fin, Vector.getElem_set]
  by_cases h : p = q
  · simp [h]
  · have : p.idx.val ≠ q.idx.val := fun e => h (Pos.idx_inj (Fin.ext e))
    simp [h, this]

/-- Two wheel tables that agree at every position are equal. -/
theorem wheels_ext {v w : Vector WheelRecord 40} (h : ∀ p : Pos, v[p.idx] = w[p.idx]) : v = w := by
  apply Vector.ext
  intro i hi
  have := h (posOfIdx ⟨i, hi⟩)
  simpa using this

/-- Two slot maps that agree at every position are equal. -/
theorem slots_ext {v w : Vector (Option SensorId) 40} (h : ∀ p : Pos, v[p.idx] = w[p.idx]) : v = w := by
  apply Vector.ext
  intro i hi
  have := h (posOfIdx ⟨i, hi⟩)
  simpa using this

/-! ## The ID lookup -/

/-- What an answer of the lookup says. -/
theorem State.lookup_some {s : State} {id : SensorId} {p : Pos} (h : s.lookup id = some p) :
    validId id = true ∧ s.slotId p = some id := by
  unfold State.lookup at h
  split at h
  · next hv =>
    have := List.find?_some h
    exact ⟨hv, by simpa using this⟩
  · cases h

/-- The lookup answers none exactly for an invalid ID or one that no slot holds. -/
theorem State.lookup_eq_none {s : State} {id : SensorId} :
    s.lookup id = none ↔ validId id = false ∨ ∀ p, s.slotId p ≠ some id := by
  unfold State.lookup
  split
  · next hv => simp [hv]
  · next hv => simp_all

/-! ## Check lists -/

@[simp] theorem firstFailure_nil : firstFailure [] = none := rfl

@[simp] theorem firstFailure_cons (ok : Bool) (st : Status) (rest : List (Bool × Status)) :
    firstFailure ((ok, st) :: rest) = if ok then firstFailure rest else some st := rfl

/-- A check list passes exactly when every check does. -/
theorem firstFailure_eq_none (cs : List (Bool × Status)) : firstFailure cs = none ↔ ∀ c ∈ cs, c.1 = true := by
  induction cs with
  | nil => simp
  | cons c rest ih =>
    obtain ⟨ok, st⟩ := c
    cases ok <;> simp [ih]

/-! ## Ports -/

@[simp] theorem State.setPort_port (s : State) (q r : PortId) (x : Port) :
    (s.setPort q x).port r = if q = r then x else s.port r := by
  cases q <;> cases r <;> rfl

@[simp] theorem State.answer_port (s : State) (q r : PortId) (st : Status) (bs : List Byte) :
    (s.answer q st bs).port r = if q = r then { s.port q with reply := ⟨st, s.generation, bs⟩ } else s.port r := by
  cases q <;> cases r <;> rfl

@[simp] theorem State.setFlagBoth_port (s : State) (e : EventFlag) (q : PortId) :
    (s.setFlagBoth e).port q = { s.port q with flags := (s.port q).flags ||| e.bit } := by
  cases q <;> rfl

@[simp] theorem State.setFlag_port (s : State) (q r : PortId) (e : EventFlag) :
    (s.setFlag q e).port r = if q = r then { s.port q with flags := (s.port q).flags ||| e.bit } else s.port r := by
  cases q <;> cases r <;> rfl

@[simp] theorem Port.flag_or_bit (x : Port) (e : EventFlag) (f : EventFlag) :
    Port.flag { x with flags := x.flags ||| e.bit } f = (x.flag f || e == f) := by
  have h : e.bit.getLsbD f.number = (e == f) := by cases e <;> cases f <;> decide
  simp [Port.flag, h]

/-- Setting a flag on both ports sets that flag and no other. -/
theorem State.setFlagBoth_flag (s : State) (e f : EventFlag) (q : PortId) :
    ((s.setFlagBoth e).port q).flag f = ((s.port q).flag f || e == f) := by
  simp

end Sys2Proof.Machine
end

