-- ==== Sys2Proof/Laws/Judged.lean ====
section
/-! SUPPORT. What judging leaves alone: every operation that only changes wheel records, the alert list, the verdict and
event flags keeps everything else (State.rest), and all but an evaluation keep the verdict. -/

namespace Sys2Proof.Machine

/-- The state without its wheel records, alert list, verdict and event flags. Two states with equal rests agree on every
other field. -/
def State.rest (s : State) : State :=
  { s with
    wheels := State.reset.wheels
    alerts := State.reset.alerts
    permit := State.reset.permit
    portA := { s.portA with flags := 0 }
    portB := { s.portB with flags := 0 } }

/-! ## Folds -/

/-- A property that every item of a fold keeps is kept by the fold. -/
theorem foldl_keeps {α β : Type} (P : α → Prop) (f : α → β → α) (h : ∀ a b, P a → P (f a b)) (l : List β) (a : α)
    (ha : P a) : P (l.foldl f a) := by
  induction l generalizing a with
  | nil => exact ha
  | cons b l ih => exact ih _ (h a b ha)

/-- A value that every item of a fold keeps is kept by the fold. -/
theorem foldl_same {α β γ : Type} (g : α → γ) (f : α → β → α) (h : ∀ a b, g (f a b) = g a) (l : List β) (a : α) :
    g (l.foldl f a) = g a :=
  foldl_keeps (fun x => g x = g a) f (fun x b hx => (h x b).trans hx) l a rfl

theorem State.atEach_keeps (P : State → Prop) (f : State → Pos → State) (h : ∀ s p, P s → P (f s p)) (s : State)
    (ps : List Pos) (hs : P s) : P (s.atEach ps f) := foldl_keeps P f h ps s hs

theorem State.atEach_same {γ : Type} (g : State → γ) (f : State → Pos → State) (h : ∀ s p, g (f s p) = g s) (s : State)
    (ps : List Pos) : g (s.atEach ps f) = g s := foldl_same g f h ps s

/-! ## The rest of basic updates -/

@[simp] theorem State.setWheel_rest (s : State) (p : Pos) (r : WheelRecord) : (s.setWheel p r).rest = s.rest := rfl
@[simp] theorem State.modWheel_rest (s : State) (p : Pos) (f : WheelRecord → WheelRecord) : (s.modWheel p f).rest = s.rest := rfl
@[simp] theorem State.setFlag_rest (s : State) (q : PortId) (e : EventFlag) : (s.setFlag q e).rest = s.rest := by
  cases q <;> rfl
@[simp] theorem State.setFlagBoth_rest (s : State) (e : EventFlag) : (s.setFlagBoth e).rest = s.rest := rfl
@[simp] theorem State.setFlagIf_rest (s : State) (c : Bool) (e : EventFlag) : (s.setFlagIf c e).rest = s.rest := by
  cases c <;> rfl
@[simp] theorem State.withAlerts_rest (s : State) (b : AlertBlock) : State.rest { s with alerts := b } = s.rest := rfl
@[simp] theorem State.withWheels_rest (s : State) (w : Vector WheelRecord 40) : State.rest { s with wheels := w } = s.rest := rfl
@[simp] theorem State.withPermit_rest (s : State) (x : Permit) : State.rest { s with permit := x } = s.rest := rfl

/-! ## Conditions -/

@[simp] theorem State.raiseCond_rest (s : State) (p : Pos) (k : Condition) : (s.raiseCond p k).rest = s.rest := by
  unfold State.raiseCond; split <;> rfl
@[simp] theorem State.clearCond_rest (s : State) (p : Pos) (k : Condition) : (s.clearCond p k).rest = s.rest := by
  unfold State.clearCond; split <;> rfl
@[simp] theorem State.raiseCond_permit (s : State) (p : Pos) (k : Condition) : (s.raiseCond p k).permit = s.permit := by
  unfold State.raiseCond; split <;> rfl
@[simp] theorem State.clearCond_permit (s : State) (p : Pos) (k : Condition) : (s.clearCond p k).permit = s.permit := by
  unfold State.clearCond; split <;> rfl

@[simp] theorem State.clearConds_rest (s : State) (p : Pos) (ks : List Condition) : (s.clearConds p ks).rest = s.rest :=
  foldl_same State.rest _ (fun s k => State.clearCond_rest s p k) ks s
@[simp] theorem State.clearConds_permit (s : State) (p : Pos) (ks : List Condition) : (s.clearConds p ks).permit = s.permit :=
  foldl_same State.permit _ (fun s k => State.clearCond_permit s p k) ks s
@[simp] theorem State.clearOwn_rest (s : State) (p : Pos) (ks : List Condition) : (s.clearOwn p ks).rest = s.rest := by
  simp [State.clearOwn]
@[simp] theorem State.clearOwn_permit (s : State) (p : Pos) (ks : List Condition) : (s.clearOwn p ks).permit = s.permit := by
  simp [State.clearOwn]
@[simp] theorem State.raisePair_rest (s : State) (p : Pos) : (s.raisePair p).rest = s.rest := by simp [State.raisePair]
@[simp] theorem State.raisePair_permit (s : State) (p : Pos) : (s.raisePair p).permit = s.permit := by simp [State.raisePair]
@[simp] theorem State.clearPair_rest (s : State) (p : Pos) : (s.clearPair p).rest = s.rest := by
  unfold State.clearPair; split <;> simp
@[simp] theorem State.clearPair_permit (s : State) (p : Pos) : (s.clearPair p).permit = s.permit := by
  unfold State.clearPair; split <;> simp

@[simp] theorem State.clearRecords_rest (s : State) (ps : List Pos) : (s.clearRecords ps).rest = s.rest := by
  unfold State.clearRecords
  rw [State.atEach_same State.rest _ State.clearPair_rest, State.atEach_same State.rest _ fun s p => State.clearOwn_rest s p _]
@[simp] theorem State.clearRecords_permit (s : State) (ps : List Pos) : (s.clearRecords ps).permit = s.permit := by
  unfold State.clearRecords
  rw [State.atEach_same State.permit _ State.clearPair_permit,
    State.atEach_same State.permit _ fun s p => State.clearOwn_permit s p _]
@[simp] theorem State.clearRecord_rest (s : State) (p : Pos) : (s.clearRecord p).rest = s.rest := by simp [State.clearRecord]
@[simp] theorem State.clearRecord_permit (s : State) (p : Pos) : (s.clearRecord p).permit = s.permit := by
  simp [State.clearRecord]

/-! ## Record treatments that keep the slot map -/

@[simp] theorem State.detachAll_rest (s : State) (ps : List Pos) : (s.detachAll ps).rest = s.rest := by
  unfold State.detachAll
  rw [State.atEach_same State.rest _ fun s p => by simp, State.clearRecords_rest]
@[simp] theorem State.detachAll_permit (s : State) (ps : List Pos) : (s.detachAll ps).permit = s.permit := by
  unfold State.detachAll
  rw [State.atEach_same State.permit _ fun s p => by simp, State.clearRecords_permit]
@[simp] theorem State.attachAt_rest (s : State) (p : Pos) : (s.attachAt p).rest = s.rest := by
  unfold State.attachAt; split <;> simp
@[simp] theorem State.attachAt_permit (s : State) (p : Pos) : (s.attachAt p).permit = s.permit := by
  unfold State.attachAt; split <;> simp
@[simp] theorem State.attachTrailer_rest (s : State) : s.attachTrailer.rest = s.rest :=
  State.atEach_same State.rest _ State.attachAt_rest s _
@[simp] theorem State.attachTrailer_permit (s : State) : s.attachTrailer.permit = s.permit :=
  State.atEach_same State.permit _ State.attachAt_permit s _
@[simp] theorem State.detachTrailer_rest (s : State) : s.detachTrailer.rest = s.rest :=
  State.detachAll_rest s _
@[simp] theorem State.detachTrailer_permit (s : State) : s.detachTrailer.permit = s.permit :=
  State.detachAll_permit s _

/-! ## Bands, leak, imbalance -/

@[simp] theorem State.raiseOpt_rest (s : State) (p : Pos) (k : Option Condition) : (s.raiseOpt p k).rest = s.rest := by
  cases k <;> simp [State.raiseOpt]
@[simp] theorem State.raiseOpt_permit (s : State) (p : Pos) (k : Option Condition) : (s.raiseOpt p k).permit = s.permit := by
  cases k <;> simp [State.raiseOpt]
@[simp] theorem State.clearOpt_rest (s : State) (p : Pos) (k : Option Condition) : (s.clearOpt p k).rest = s.rest := by
  cases k <;> simp [State.clearOpt]
@[simp] theorem State.clearOpt_permit (s : State) (p : Pos) (k : Option Condition) : (s.clearOpt p k).permit = s.permit := by
  cases k <;> simp [State.clearOpt]
@[simp] theorem State.setBand_rest (s : State) (p : Pos) (b : Band) : (s.setBand p b).rest = s.rest := by
  simp [State.setBand]
@[simp] theorem State.setBand_permit (s : State) (p : Pos) (b : Band) : (s.setBand p b).permit = s.permit := by
  simp [State.setBand]
@[simp] theorem State.judgePressure_rest (s : State) (p : Pos) (n : Option Nat) (c : Int) :
    (s.judgePressure p n c).rest = s.rest := by
  simp only [State.judgePressure, State.modWheel_rest]
  exact foldl_same State.rest _ (fun s b => State.setBand_rest s p b) _ s
@[simp] theorem State.judgePressure_permit (s : State) (p : Pos) (n : Option Nat) (c : Int) :
    (s.judgePressure p n c).permit = s.permit := by
  simp only [State.judgePressure, State.modWheel_permit]
  exact foldl_same State.permit _ (fun s b => State.setBand_permit s p b) _ s
@[simp] theorem State.judgeTemp_rest (s : State) (p : Pos) (tc : BitVec 8) : (s.judgeTemp p tc).rest = s.rest := by
  unfold State.judgeTemp; split
  · rfl
  · dsimp only; split <;> simp
@[simp] theorem State.judgeTemp_permit (s : State) (p : Pos) (tc : BitVec 8) : (s.judgeTemp p tc).permit = s.permit := by
  unfold State.judgeTemp; split
  · rfl
  · dsimp only; split <;> simp
@[simp] theorem State.judgeLeak_rest (s : State) (p : Pos) (al : Bool) (l r : Int) : (s.judgeLeak p al l r).rest = s.rest := by
  simp only [State.judgeLeak]; split
  · generalize (if al = true then 2 else min 2 ((s.wheel p).leakCount + 1)) = n; split <;> simp
  · split <;> simp
@[simp] theorem State.judgeLeak_permit (s : State) (p : Pos) (al : Bool) (l r : Int) :
    (s.judgeLeak p al l r).permit = s.permit := by
  simp only [State.judgeLeak]; split
  · generalize (if al = true then 2 else min 2 ((s.wheel p).leakCount + 1)) = n; split <;> simp
  · split <;> simp
@[simp] theorem State.leakStep_rest (s : State) (p : Pos) (al : Bool) (c : Int) (t : Uptime) :
    (s.leakStep p al c t).rest = s.rest := by
  unfold State.leakStep; split
  · simp
  · dsimp only; split
    · rfl
    · split <;> simp
@[simp] theorem State.leakStep_permit (s : State) (p : Pos) (al : Bool) (c : Int) (t : Uptime) :
    (s.leakStep p al c t).permit = s.permit := by
  unfold State.leakStep; split
  · simp
  · dsimp only; split
    · rfl
    · split <;> simp
@[simp] theorem State.checkPair_rest (s : State) (p : Pos) : (s.checkPair p).rest = s.rest := by
  unfold State.checkPair; split
  · split
    · dsimp only; split
      · simp
      · split <;> simp
    · rfl
  · rfl
@[simp] theorem State.checkPair_permit (s : State) (p : Pos) : (s.checkPair p).permit = s.permit := by
  unfold State.checkPair; split
  · split
    · dsimp only; split
      · simp
      · split <;> simp
    · rfl
  · rfl

/-! ## Re-evaluation -/

@[simp] theorem State.reevaluateAt_rest (s : State) (p : Pos) : (s.reevaluateAt p).rest = s.rest := by
  unfold State.reevaluateAt; split <;> simp
@[simp] theorem State.reevaluateAt_permit (s : State) (p : Pos) : (s.reevaluateAt p).permit = s.permit := by
  unfold State.reevaluateAt; split <;> simp
@[simp] theorem State.reevaluateAxle_rest (s : State) (a : Fin 10) : (s.reevaluateAxle a).rest = s.rest := by
  simp only [State.reevaluateAxle, State.checkPair_rest]
  exact State.atEach_same State.rest _ State.reevaluateAt_rest s _
@[simp] theorem State.reevaluateAxle_permit (s : State) (a : Fin 10) : (s.reevaluateAxle a).permit = s.permit := by
  simp only [State.reevaluateAxle, State.checkPair_permit]
  exact State.atEach_same State.permit _ State.reevaluateAt_permit s _
@[simp] theorem State.targetChange_rest (s : State) (f : Fin 10 → Bool) : (s.targetChange f).rest = s.rest :=
  foldl_same State.rest _ State.reevaluateAxle_rest _ s
@[simp] theorem State.targetChange_permit (s : State) (f : Fin 10 → Bool) : (s.targetChange f).permit = s.permit :=
  foldl_same State.permit _ State.reevaluateAxle_permit _ s

/-! ## Silence -/

@[simp] theorem State.expireAt_rest (s : State) (p : Pos) : (s.expireAt p).rest = s.rest := by simp [State.expireAt]
@[simp] theorem State.expireAt_permit (s : State) (p : Pos) : (s.expireAt p).permit = s.permit := by simp [State.expireAt]
@[simp] theorem State.expireDue_rest (s : State) : s.expireDue.rest = s.rest :=
  State.atEach_same State.rest _ (fun s p => by split <;> simp) s _
@[simp] theorem State.expireDue_permit (s : State) : s.expireDue.permit = s.permit :=
  State.atEach_same State.permit _ (fun s p => by split <;> simp) s _
@[simp] theorem State.moveSilenceRefs_rest (s : State) : s.moveSilenceRefs.rest = s.rest := rfl
@[simp] theorem State.moveSilenceRefs_permit (s : State) : s.moveSilenceRefs.permit = s.permit := rfl

/-! ## Entries -/

@[simp] theorem State.acceptEntry_rest (s : State) (p : Pos) (e : QueueEntry) : (s.acceptEntry p e).rest = s.rest := by
  simp only [State.acceptEntry]; split <;> simp
@[simp] theorem State.acceptEntry_permit (s : State) (p : Pos) (e : QueueEntry) : (s.acceptEntry p e).permit = s.permit := by
  simp only [State.acceptEntry]; split <;> simp
@[simp] theorem State.acceptFault_rest (s : State) (p : Pos) (e : QueueEntry) : (s.acceptFault p e).rest = s.rest := by
  simp [State.acceptFault]
@[simp] theorem State.acceptFault_permit (s : State) (p : Pos) (e : QueueEntry) : (s.acceptFault p e).permit = s.permit := by
  simp [State.acceptFault]
@[simp] theorem State.readCodes_rest (s : State) (p : Pos) (t : Telegram) : (s.readCodes p t).rest = s.rest := by
  simp only [State.readCodes]
  cases t.batteryLow <;> simp <;> split <;> (try split) <;> simp
@[simp] theorem State.readCodes_permit (s : State) (p : Pos) (t : Telegram) : (s.readCodes p t).permit = s.permit := by
  simp only [State.readCodes]
  cases t.batteryLow <;> simp <;> split <;> (try split) <;> simp
@[simp] theorem State.compensate_rest (s : State) (p : Pos) (t : Telegram) : (s.compensate p t).rest = s.rest := rfl
@[simp] theorem State.compensate_permit (s : State) (p : Pos) (t : Telegram) : (s.compensate p t).permit = s.permit := rfl
@[simp] theorem State.acceptReading_rest (s : State) (p : Pos) (e : QueueEntry) : (s.acceptReading p e).rest = s.rest := by
  simp [State.acceptReading]
@[simp] theorem State.acceptReading_permit (s : State) (p : Pos) (e : QueueEntry) : (s.acceptReading p e).permit = s.permit := by
  simp [State.acceptReading]
@[simp] theorem State.resetCounts_rest (s : State) : s.resetCounts.rest = s.rest := rfl
@[simp] theorem State.resetCounts_permit (s : State) : s.resetCounts.permit = s.permit := rfl
@[simp] theorem State.noteRssi_rest (s : State) (p : Pos) (e : QueueEntry) : (s.noteRssi p e).rest = s.rest := by
  unfold State.noteRssi; split <;> simp
@[simp] theorem State.noteRssi_permit (s : State) (p : Pos) (e : QueueEntry) : (s.noteRssi p e).permit = s.permit := by
  unfold State.noteRssi; split <;> simp
@[simp] theorem State.applyEntry_rest (s : State) (p : Pos) (e : QueueEntry) : (s.applyEntry p e).rest = s.rest := by
  unfold State.applyEntry; split
  · split <;> simp
  · simp
@[simp] theorem State.applyEntry_permit (s : State) (p : Pos) (e : QueueEntry) : (s.applyEntry p e).permit = s.permit := by
  unfold State.applyEntry; split
  · split <;> simp
  · simp
@[simp] theorem State.readEntry_rest (s : State) (e : QueueEntry) : (s.readEntry e).rest = s.rest := by
  unfold State.readEntry; split <;> simp
@[simp] theorem State.readEntry_permit (s : State) (e : QueueEntry) : (s.readEntry e).permit = s.permit := by
  unfold State.readEntry; split <;> simp

/-! ## Flags and the verdict -/

@[simp] theorem State.noteWheels_rest (b a : State) : (b.noteWheels a).rest = a.rest := by simp [State.noteWheels]
@[simp] theorem State.noteWheels_permit (b a : State) : (b.noteWheels a).permit = a.permit := by simp [State.noteWheels]
@[simp] theorem State.noteWheels_wheels (b a : State) : (b.noteWheels a).wheels = a.wheels := by simp [State.noteWheels]
@[simp] theorem State.noteWheels_alerts (b a : State) : (b.noteWheels a).alerts = a.alerts := by simp [State.noteWheels]
@[simp] theorem State.putPermit_rest (s : State) (x : Permit) : (s.putPermit x).rest = s.rest := by simp [State.putPermit]
@[simp] theorem State.putPermit_permit (s : State) (x : Permit) : (s.putPermit x).permit = x := by simp [State.putPermit]
@[simp] theorem State.putPermit_wheels (s : State) (x : Permit) : (s.putPermit x).wheels = s.wheels := by simp [State.putPermit]
@[simp] theorem State.putPermit_alerts (s : State) (x : Permit) : (s.putPermit x).alerts = s.alerts := by simp [State.putPermit]
@[simp] theorem State.evaluate_rest (s : State) : s.evaluate.rest = s.rest := by unfold State.evaluate; split <;> simp
@[simp] theorem State.evaluate_wheels (s : State) : s.evaluate.wheels = s.wheels := by unfold State.evaluate; split <;> simp
@[simp] theorem State.evaluate_alerts (s : State) : s.evaluate.alerts = s.alerts := by unfold State.evaluate; split <;> simp
@[simp] theorem State.firstEvaluation_rest (s : State) : s.firstEvaluation.rest = s.rest := by simp [State.firstEvaluation]
@[simp] theorem State.takeExpiries_rest (s : State) : s.takeExpiries.rest = s.rest := by simp [State.takeExpiries]

/-! ## Using equal rests -/

/-- Flags of a state that another reaches by setting WHEEL, ALERT_RAISED, ALERT_CLEARED or PERMIT on both ports. -/
def State.Grown (t u : State) : Prop :=
  ∃ m : BitVec 11, m &&& 0x7E1#11 = 0 ∧ ∀ q, (t.port q).flags = (u.port q).flags ||| m

theorem State.Grown.refl (s : State) : s.Grown s := ⟨0, by decide, fun q => by simp⟩

theorem State.Grown.trans {r s t : State} (h : t.Grown s) (g : s.Grown r) : t.Grown r := by
  obtain ⟨m, hm, hf⟩ := h
  obtain ⟨n, hn, hg⟩ := g
  refine ⟨n ||| m, ?_, fun q => by rw [hf, hg, BitVec.or_assoc]⟩
  have h : (n ||| m) &&& 0x7E1#11 = (n &&& 0x7E1#11) ||| (m &&& 0x7E1#11) := by
    apply BitVec.eq_of_getLsbD_eq
    intro i _
    simp [Bool.and_or_distrib_right]
  rw [h, hn, hm]; decide

/-- Equal ports give grown flags. -/
theorem State.Grown.of_ports {t s : State} (ha : t.portA = s.portA) (hb : t.portB = s.portB) : t.Grown s :=
  ⟨0, by decide, fun q => by cases q <;> simp [State.port, ha, hb]⟩

theorem State.setFlagBoth_grown (s : State) (e : EventFlag) (h : e.bit &&& 0x7E1#11 = 0) : (s.setFlagBoth e).Grown s :=
  ⟨e.bit, h, fun q => by simp⟩

theorem State.setFlagIf_grown (s : State) (c : Bool) (e : EventFlag) (h : e.bit &&& 0x7E1#11 = 0) :
    (s.setFlagIf c e).Grown s := by
  cases c
  · exact State.Grown.refl s
  · exact State.setFlagBoth_grown s e h

theorem State.raiseCond_grown (s : State) (p : Pos) (k : Condition) : (s.raiseCond p k).Grown s := by
  unfold State.raiseCond
  split
  · exact .refl s
  · exact (State.setFlagBoth_grown _ _ (by decide)).trans (.of_ports rfl rfl)

theorem State.clearCond_grown (s : State) (p : Pos) (k : Condition) : (s.clearCond p k).Grown s := by
  unfold State.clearCond
  split
  · exact (State.setFlagBoth_grown _ _ (by decide)).trans (.of_ports rfl rfl)
  · exact .refl s

theorem State.noteWheels_grown (b a : State) : (b.noteWheels a).Grown a := State.setFlagIf_grown _ _ _ (by decide)

theorem State.putPermit_grown (s : State) (x : Permit) : (s.putPermit x).Grown s :=
  (State.setFlagIf_grown _ _ _ (by decide)).trans (.of_ports rfl rfl)

theorem State.evaluate_grown (s : State) : s.evaluate.Grown s := by
  unfold State.evaluate
  split
  · exact .refl s
  · exact State.putPermit_grown _ _

theorem State.modWheel_grown (s : State) (p : Pos) (f : WheelRecord → WheelRecord) : (s.modWheel p f).Grown s :=
  .of_ports rfl rfl

/-- Folds of operations that grow the flags grow them. -/
theorem foldl_grown {β : Type} (f : State → β → State) (h : ∀ s b, (f s b).Grown s) (l : List β) (s : State) :
    (l.foldl f s).Grown s :=
  foldl_keeps (fun t => t.Grown s) f (fun a b ha => (h a b).trans ha) l s (.refl s)

open Sys2Proof.Safety in
/-- Equal rests with grown flags give the frame that statements use. -/
theorem judgedFrom_of_rest {t u : State} (h : t.rest = u.rest) (g : t.Grown u) : JudgedFrom t u where
  pending := (congrArg State.pending h :)
  rx0 := (congrArg State.rx0 h :)
  rx1 := (congrArg State.rx1 h :)
  queue := (congrArg State.queue h :)
  lostPending := (congrArg State.lostPending h :)
  axles := (congrArg State.axles h :)
  slots := (congrArg State.slots h :)
  protect := (congrArg State.protect h :)
  generation := (congrArg State.generation h :)
  profiles := (congrArg State.profiles h :)
  learn := (congrArg State.learn h :)
  vehicle := (congrArg State.vehicle h :)
  config := (congrArg State.config h :)
  supply := (congrArg State.supply h :)
  uptime := (congrArg State.uptime h :)
  store := (congrArg State.store h :)
  nonvolatile := (congrArg State.nonvolatile h :)
  freeIndex := (congrArg State.freeIndex h :)
  reply := fun q => by
    cases q
    · exact (congrArg (fun x : State => x.portA.reply) h :)
    · exact (congrArg (fun x : State => x.portB.reply) h :)
  selected := fun q => by
    cases q
    · exact (congrArg (fun x : State => x.portA.selected) h :)
    · exact (congrArg (fun x : State => x.portB.selected) h :)
  cut := fun q => by
    cases q
    · exact (congrArg (fun x : State => x.portA.cut) h :)
    · exact (congrArg (fun x : State => x.portB.cut) h :)
  mask := fun q => by
    cases q
    · exact (congrArg (fun x : State => x.portA.mask) h :)
    · exact (congrArg (fun x : State => x.portB.mask) h :)
  staging := fun q => by
    cases q
    · exact (congrArg (fun x : State => x.portA.staging) h :)
    · exact (congrArg (fun x : State => x.portB.staging) h :)
  flags := g

open Sys2Proof.Safety in
/-- No law speaks of the commands that wait. -/
theorem lawful_withPending {s : State} (h : Lawful s) (cs : List Instr) : Lawful { s with pending := cs } where
  receive := { h.receive with }
  range := { h.range with }
  lift := { h.lift with }
  loading := { h.loading with }
  map := { h.map with }
  session := { h.session with }
  record := { h.record with }
  detached := { h.detached with }
  pressure := { h.pressure with }
  stale := h.stale
  mirror := { h.mirror with }
  count := { h.count with }
  pair := { h.pair with }
  alert := { h.alert with }
  permit := { h.permit with }
  current := h.current
  store := { h.store with }

end Sys2Proof.Machine
end

