-- ==== Sys2Proof/Laws/Conditions.lean ====
section
/-! SUPPORT. What raising and clearing a condition does to wheel records, active conditions and the alert list, and what
an evaluation of the verdict does. -/

namespace Sys2Proof.Machine

/-! ## Sets of conditions -/

@[simp] theorem Conditions.has_put (c : Conditions) (k j : Condition) (b : Bool) :
    (c.put k b).has j = if k = j then b else c.has j := by
  cases k <;> cases j <;> rfl

theorem Conditions.ext_has {c d : Conditions} (h : ∀ k, c.has k = d.has k) : c = d := by
  have h0 := h .lowWarn; have h1 := h .lowAlarm; have h2 := h .highWarn; have h3 := h .hotWarn; have h4 := h .hotAlarm
  have h5 := h .leak; have h6 := h .imbalance; have h7 := h .silent; have h8 := h .sensorFault; have h9 := h .batteryLow
  cases c; cases d
  simp_all [Conditions.has]

@[simp] theorem Conditions.none_has (k : Condition) : Conditions.none.has k = false := by cases k <;> rfl

/-- Writing a condition as it stands changes nothing. -/
theorem Conditions.put_same {c : Conditions} {k : Condition} {b : Bool} (h : c.has k = b) : c.put k b = c := by
  apply Conditions.ext_has
  intro j
  by_cases e : k = j
  · subst e; simp [h]
  · simp [e]

/-! ## Raising and clearing -/

/-- A raising writes one condition of one record. -/
theorem State.raiseCond_wheel (s : State) (p q : Pos) (k : Condition) :
    (s.raiseCond p k).wheel q
      = if p = q then { s.wheel p with conditions := (s.wheel p).conditions.put k true } else s.wheel q := by
  unfold State.raiseCond
  split
  · next h =>
    by_cases e : p = q
    · subst e
      have h' : (s.wheel p).conditions.has k = true := h
      simp [Conditions.put_same h']
    · simp [e]
  · rw [State.setFlagBoth_wheel]
    exact State.modWheel_wheel s p q fun r => { r with conditions := r.conditions.put k true }

/-- A clearing writes one condition of one record. -/
theorem State.clearCond_wheel (s : State) (p q : Pos) (k : Condition) :
    (s.clearCond p k).wheel q
      = if p = q then { s.wheel p with conditions := (s.wheel p).conditions.put k false } else s.wheel q := by
  unfold State.clearCond
  split
  · rw [State.setFlagBoth_wheel]
    exact State.modWheel_wheel s p q fun r => { r with conditions := r.conditions.put k false }
  · next h =>
    by_cases e : p = q
    · subst e
      have h' : (s.wheel p).conditions.has k = false := by simpa [State.active] using h
      simp [Conditions.put_same h']
    · simp [e]

@[simp] theorem State.raiseCond_active (s : State) (p q : Pos) (k j : Condition) :
    (s.raiseCond p k).active q j = if p = q ∧ k = j then true else s.active q j := by
  unfold State.active
  rw [State.raiseCond_wheel]
  by_cases e : p = q
  · subst e; simp
  · simp [e]

@[simp] theorem State.clearCond_active (s : State) (p q : Pos) (k j : Condition) :
    (s.clearCond p k).active q j = if p = q ∧ k = j then false else s.active q j := by
  unfold State.active
  rw [State.clearCond_wheel]
  by_cases e : p = q
  · subst e; simp
  · simp [e]

/-- What a raising hands to the alert list (R74, R103). -/
theorem State.raiseCond_alerts (s : State) (p : Pos) (k : Condition) :
    (s.raiseCond p k).alerts = if s.active p k then s.alerts else s.alerts.raising p k s.uptime := by
  unfold State.raiseCond; split <;> simp_all

/-- What a clearing hands to the alert list (R74, R107). -/
theorem State.clearCond_alerts (s : State) (p : Pos) (k : Condition) :
    (s.clearCond p k).alerts = if s.active p k then s.alerts.clearing p k else s.alerts := by
  unfold State.clearCond; split <;> simp_all

/-- Everything that is no condition of a record, under a raising. -/
@[simp] theorem State.raiseCond_state (s : State) (p q : Pos) (k : Condition) :
    ((s.raiseCond p k).wheel q).state = (s.wheel q).state := by
  rw [State.raiseCond_wheel]; split <;> simp_all

@[simp] theorem State.clearCond_state (s : State) (p q : Pos) (k : Condition) :
    ((s.clearCond p k).wheel q).state = (s.wheel q).state := by
  rw [State.clearCond_wheel]; split <;> simp_all

/-- Clearing several conditions writes exactly those. -/
theorem State.clearConds_wheel (s : State) (p q : Pos) (ks : List Condition) :
    (s.clearConds p ks).wheel q
      = if p = q then { s.wheel p with conditions := ks.foldl (fun c k => c.put k false) (s.wheel p).conditions }
        else s.wheel q := by
  induction ks generalizing s with
  | nil =>
    by_cases e : p = q
    · subst e; simp [State.clearConds]
    · simp [State.clearConds, e]
  | cons k ks ih =>
    have : s.clearConds p (k :: ks) = (s.clearCond p k).clearConds p ks := rfl
    rw [this, ih, State.clearCond_wheel, State.clearCond_wheel]
    by_cases e : p = q <;> simp [e]

/-- Clearing some conditions of a set, one after another. -/
theorem Conditions.foldl_put_has (ks : List Condition) (c : Conditions) (j : Condition) :
    (ks.foldl (fun c k => c.put k false) c).has j = (c.has j && !decide (j ∈ ks)) := by
  induction ks generalizing c with
  | nil => simp
  | cons k ks ih =>
    rw [List.foldl_cons, ih, Conditions.has_put]
    by_cases e : k = j
    · subst e; simp
    · have e' : ¬ j = k := fun h => e h.symm
      simp [e, e']

@[simp] theorem Conditions.mem_all (k : Condition) : k ∈ Condition.all := by cases k <;> decide

/-- What a treatment clears on its own wheel: every condition, but IMBALANCE on a DUAL axle. -/
theorem State.clearOwn_all_wheel (s : State) (p q : Pos) :
    (s.clearOwn p Condition.all).wheel q
      = if p = q then { s.wheel p with
          conditions := Conditions.none.put Condition.imbalance (decide ((s.axle p.axle).kind = .dual) && s.active p .imbalance) }
        else s.wheel q := by
  have key : (Condition.all.filter fun k => !(k == .imbalance && (s.axle p.axle).kind == .dual)).foldl
      (fun c k => c.put k false) (s.wheel p).conditions
      = Conditions.none.put Condition.imbalance (decide ((s.axle p.axle).kind = .dual) && s.active p .imbalance) := by
    apply Conditions.ext_has
    intro j
    rw [Conditions.foldl_put_has]
    by_cases d : (s.axle p.axle).kind = .dual <;> by_cases e : j = .imbalance
    · subst e; simp [d, State.active]
    · have e' : ¬ Condition.imbalance = j := fun h => e h.symm
      simp [d, e, e']
    · subst e; simp [d]
    · have e' : ¬ Condition.imbalance = j := fun h => e h.symm
      simp [d, e']
  rw [State.clearOwn, State.clearConds_wheel, key]

/-- Clearing a pair clears IMBALANCE on both members of a DUAL axle's pair and nothing else. -/
theorem State.clearPair_wheel (s : State) (p q : Pos) :
    (s.clearPair p).wheel q
      = if (s.axle p.axle).kind = .dual ∧ (q = p.pairLow ∨ q = p.pairHigh)
        then { s.wheel q with conditions := (s.wheel q).conditions.put .imbalance false } else s.wheel q := by
  unfold State.clearPair
  split
  · next hd =>
    rw [State.clearCond_wheel, State.clearCond_wheel]
    by_cases e1 : q = p.pairLow
    · subst e1
      have : p.pairHigh ≠ p.pairLow := fun e => Pos.pairLow_ne_pairHigh p e.symm
      rw [if_neg this, State.clearCond_wheel]
      simp [hd]
    · by_cases e2 : q = p.pairHigh
      · subst e2
        have h1 : p.pairLow ≠ p.pairHigh := Pos.pairLow_ne_pairHigh p
        rw [State.clearCond_wheel]
        simp [hd, h1]
      · have h1 : p.pairLow ≠ q := fun e => e1 e.symm
        have h2 : p.pairHigh ≠ q := fun e => e2 e.symm
        rw [if_neg h2, State.clearCond_wheel, if_neg h1]
        simp [e1, e2]
  · next hd => simp [hd]

/-! ## Records cleared and detached -/

/-- Two positions are in one pair, told from either. -/
theorem Pos.pair_comm (p q : Pos) : (q = p.pairLow ∨ q = p.pairHigh) ↔ (p = q.pairLow ∨ p = q.pairHigh) := by
  obtain ⟨a, k⟩ := p
  obtain ⟨b, l⟩ := q
  have slots : ∀ k l : Fin 4, (l = (⟨0, k⟩ : Pos).pairLow.slot ∨ l = (⟨0, k⟩ : Pos).pairHigh.slot)
      ↔ (k = (⟨0, l⟩ : Pos).pairLow.slot ∨ k = (⟨0, l⟩ : Pos).pairHigh.slot) := by decide
  have h := slots k l
  simp only [Pos.pairLow, Pos.pairHigh, Pos.mk.injEq] at h ⊢
  constructor
  · rintro (⟨rfl, e⟩ | ⟨rfl, e⟩)
    · exact (h.1 (.inl e)).imp (⟨rfl, ·⟩) (⟨rfl, ·⟩)
    · exact (h.1 (.inr e)).imp (⟨rfl, ·⟩) (⟨rfl, ·⟩)
  · rintro (⟨rfl, e⟩ | ⟨rfl, e⟩)
    · exact (h.2 (.inl e)).imp (⟨rfl, ·⟩) (⟨rfl, ·⟩)
    · exact (h.2 (.inr e)).imp (⟨rfl, ·⟩) (⟨rfl, ·⟩)

/-- Equal rests have equal axle tables. -/
theorem State.axle_of_rest {s t : State} (h : t.rest = s.rest) (a : Fin 10) : t.axle a = s.axle a := by
  have e : t.axles = s.axles := (congrArg State.axles h :)
  simp [State.axle, e]

/-- The conditions of several wheels cleared in turn, but IMBALANCE on DUAL axles. -/
theorem State.clearOwnEach_wheel (s : State) (ps : List Pos) (q : Pos) :
    (s.atEach ps fun t p => t.clearOwn p Condition.all).wheel q
      = if q ∈ ps then { s.wheel q with
          conditions := Conditions.none.put Condition.imbalance (decide ((s.axle q.axle).kind = .dual) && s.active q .imbalance) }
        else s.wheel q := by
  induction ps generalizing s with
  | nil => rfl
  | cons p ps ih =>
    show (State.atEach (s.clearOwn p Condition.all) ps _).wheel q = _
    rw [ih, State.axle_of_rest (State.clearOwn_rest s p _)]
    simp only [State.active, State.clearOwn_all_wheel]
    by_cases e : p = q
    · subst e
      by_cases m : p ∈ ps <;> simp [m]
    · have e' : ¬ q = p := fun h => e h.symm
      simp [e, e']

/-- IMBALANCE cleared on the pairs of several positions in turn. -/
theorem State.clearPairEach_wheel (s : State) (ps : List Pos) (q : Pos) :
    (s.atEach ps State.clearPair).wheel q
      = if (s.axle q.axle).kind = .dual ∧ (q.pairLow ∈ ps ∨ q.pairHigh ∈ ps)
        then { s.wheel q with conditions := (s.wheel q).conditions.put .imbalance false } else s.wheel q := by
  induction ps generalizing s with
  | nil => simp [State.atEach]
  | cons p ps ih =>
    show (State.atEach (s.clearPair p) ps _).wheel q = _
    rw [ih, State.axle_of_rest (State.clearPair_rest s p), State.clearPair_wheel]
    have key := Pos.pair_comm p q
    by_cases c : q = p.pairLow ∨ q = p.pairHigh
    · have ax : p.axle = q.axle := by rcases c with rfl | rfl <;> rfl
      have m : q.pairLow = p ∨ q.pairHigh = p := (key.1 c).imp Eq.symm Eq.symm
      have m' : q.pairLow ∈ p :: ps ∨ q.pairHigh ∈ p :: ps := m.imp (fun h => by simp [h]) (fun h => by simp [h])
      by_cases d : (s.axle q.axle).kind = .dual
      · have twice : ∀ r : WheelRecord, { ({ r with conditions := r.conditions.put .imbalance false } : WheelRecord) with
            conditions := (r.conditions.put .imbalance false).put .imbalance false }
            = { r with conditions := r.conditions.put .imbalance false } := fun r => rfl
        rw [ax, if_pos (show _ ∧ _ from ⟨d, m'⟩), if_pos (show _ ∧ _ from ⟨d, c⟩)]
        split
        · exact twice _
        · rfl
      · simp [ax, d]
    · have m1 : ¬ q.pairLow = p := fun h => c (key.2 (.inl h.symm))
      have m2 : ¬ q.pairHigh = p := fun h => c (key.2 (.inr h.symm))
      have none : ¬ ((s.axle p.axle).kind = .dual ∧ (q = p.pairLow ∨ q = p.pairHigh)) := fun h => c h.2
      simp [none, m1, m2]

/-- Clearing several records leaves them no condition, and clears IMBALANCE of the other members of their pairs on DUAL
axles; nothing else changes in the wheel table. -/
theorem State.clearRecords_wheel (s : State) (ps : List Pos) (q : Pos) :
    (s.clearRecords ps).wheel q
      = if q ∈ ps then { s.wheel q with conditions := .none }
        else if (s.axle q.axle).kind = .dual ∧ (q.pairLow ∈ ps ∨ q.pairHigh ∈ ps)
        then { s.wheel q with conditions := (s.wheel q).conditions.put .imbalance false } else s.wheel q := by
  have same : (s.atEach ps fun t p => t.clearOwn p Condition.all).rest = s.rest :=
    State.atEach_same State.rest _ (fun t p => State.clearOwn_rest t p _) s ps
  rw [State.clearRecords, State.clearPairEach_wheel, State.axle_of_rest same, State.clearOwnEach_wheel]
  by_cases m : q ∈ ps
  · by_cases d : (s.axle q.axle).kind = .dual
    · have pair : q.pairLow ∈ ps ∨ q.pairHigh ∈ ps := 
      (Pos.eq_pairLow_or_pairHigh q).imp (fun h => h.subst (motive := (· ∈ ps)) m) (fun h => h.subst (motive := (· ∈ ps)) m)
      rw [if_pos ⟨d, pair⟩, if_pos m, if_pos m]
      rfl
    · rw [if_neg fun h => d h.1, if_pos m, if_pos m]
      simp only [d, decide_false, Bool.false_and]
      rfl
  · simp [m]

/-- A change of several records in turn that does no more the second time. -/
theorem State.modEach_wheel (s : State) (ps : List Pos) (f : WheelRecord → WheelRecord) (twice : ∀ r, f (f r) = f r)
    (q : Pos) :
    (s.atEach ps fun t p => t.modWheel p f).wheel q = if q ∈ ps then f (s.wheel q) else s.wheel q := by
  induction ps generalizing s with
  | nil => rfl
  | cons p ps ih =>
    show (State.atEach (s.modWheel p f) ps _).wheel q = _
    rw [ih, State.modWheel_wheel]
    by_cases e : p = q
    · subst e
      by_cases m : p ∈ ps <;> simp [m, twice]
    · have e' : ¬ q = p := fun h => e h.symm
      simp [e, e']

/-- Detaching writes the records of the list that are neither EMPTY nor DETACHED, without conditions, and clears IMBALANCE of
the other members of their pairs (R19, R20). -/
theorem State.detachAll_wheel (s : State) (ps : List Pos) (q : Pos) :
    (s.detachAll ps).wheel q
      = let qs := ps.filter fun p => (s.wheel p).detaches
        if q ∈ qs then WheelRecord.detach { s.wheel q with conditions := .none }
        else if (s.axle q.axle).kind = .dual ∧ (q.pairLow ∈ qs ∨ q.pairHigh ∈ qs)
        then { s.wheel q with conditions := (s.wheel q).conditions.put .imbalance false } else s.wheel q := by
  unfold State.detachAll
  simp only []
  rw [State.modEach_wheel _ _ WheelRecord.detach (fun _ => rfl), State.clearRecords_wheel]
  split <;> rfl

/-! ## Evaluation of the verdict -/

/-- An evaluation writes the verdict record from the state as it stands (R118 to R120). -/
theorem State.evaluate_permit (s : State) :
    s.evaluate.permit = if s.permit.basis = .evaluated then s.evaluatedPermit else s.permit := by
  unfold State.evaluate
  split <;> simp_all

/-- What an evaluation reads: equal axle tables, profiles, vehicle items, wheel tables and verdict records give equal
results. -/
theorem State.evaluatedPermit_congr {s t : State} (ha : t.axles = s.axles) (hf : t.profiles = s.profiles)
    (hv : t.vehicle = s.vehicle) (hw : t.wheels = s.wheels) (hp : t.permit = s.permit) :
    t.evaluatedPermit = s.evaluatedPermit := by
  have e1 : t.axle = s.axle := by funext a; simp [State.axle, ha]
  have e2 : t.wheel = s.wheel := by funext p; simp [State.wheel, hw]
  have e3 : t.levelsOf = s.levelsOf := by funext a; simp [State.levelsOf, State.profileOfAxle, hf, hv, e1]
  have e4 : t.considered = s.considered := by funext a; simp [State.considered, e1, hv]
  have e0 : t.validPos = s.validPos := by funext p; simp [State.validPos, e1]
  have e5 : t.validSlots = s.validSlots := by funext a; simp [State.validSlots, e0]
  have e6 : t.sideMeans = s.sideMeans := by funext a; simp [State.sideMeans, e1, e2]
  have e7 : t.sideReason = s.sideReason := by funext a; simp [State.sideReason, e3, e6]
  have e8 : t.axleReasons = s.axleReasons := by funext a; simp [State.axleReasons, e2, e5, e7]
  have e9 : t.fullReasons = s.fullReasons := by simp [State.fullReasons, e4, e8]
  simp [State.evaluatedPermit, State.rawVerdict, e9, hv, hp]

/-- The verdict record of an evaluation reads the verdict before it and nothing else of the record. -/
theorem State.evaluatedPermit_withPermit (s : State) (x : Permit) :
    State.evaluatedPermit { s with permit := x }
      = { verdict := (latchRule s.vehicle.body x.verdict s.rawVerdict).1
          basis := .evaluated
          latched := (latchRule s.vehicle.body x.verdict s.rawVerdict).2
          reasons := s.fullReasons.take 8
          more := decide (8 < s.fullReasons.length) } := rfl

/-- The latch rule applied to its own verdict gives the same again. -/
theorem latchRule_idem (b : BodyState) (v r : Verdict) : latchRule b (latchRule b v r).1 r = latchRule b v r := by
  cases b <;> cases v <;> cases r <;> rfl

/-- Evaluating twice gives what evaluating once gives. -/
theorem State.evaluatedPermit_idem (s : State) :
    State.evaluatedPermit { s with permit := s.evaluatedPermit } = s.evaluatedPermit := by
  rw [State.evaluatedPermit_withPermit]
  have h : s.evaluatedPermit.verdict = (latchRule s.vehicle.body s.permit.verdict s.rawVerdict).1 := rfl
  rw [h, latchRule_idem]
  rfl

end Sys2Proof.Machine
end

