-- ==== Sys2Proof/Tests/Slice0.lean ====
section
/-! SUPPORT. Small checks of the model on the spec's worked cases, the WellFormed smoke tests, and for each statement with
hypotheses a state and operands that meet them. -/

namespace Sys2Proof.Tests

open Sys2Proof Sys2Proof.Machine Sys2Proof.Safety

set_option maxRecDepth 20000

/-! ## Helpers -/

/-- The command answers a next state, of which a test holds. -/
def gives (c : Instr) (s : State) (f : State → Bool) : Bool :=
  match exec c s with
  | .next t => f t
  | _ => false

/-- After a load that found no valid image. -/
def ready : State :=
  { State.reset with
    store := ⟨.idle, none, false, .none⟩
    permit := ⟨.withheld, .evaluated, false, [⟨none, none, .noCriticalAxle⟩], false⟩ }

/-- A LIVE record with a P_cold and the silence reference 0. -/
def live (cold : Int) : WheelRecord := { WheelRecord.empty with state := .live, pCold := some cold, silenceRef := some 0 }

/-- A state with a sensor and a record at a position. -/
def placed (s : State) (p : Pos) (id : SensorId) (r : WheelRecord) : State := (s.setSlot p (some id)).setWheel p r

/-- An axle present, DUAL, TRUCK, profile 0. -/
def dual (tip lift : Bool) : AxleRecord := ⟨true, .truck, .dual, 0, tip, lift⟩

/-- The axle 4 of the worked move: X, nothing, Y with LOW_WARN, Z; LADEN; generation 295. -/
def truck : State :=
  let s : State := { ready with
    axles := ready.axles.set 4 (dual false false)
    vehicle := { ready.vehicle with load := .laden }
    generation := 295
    alerts := ⟨[⟨⟨4, 2⟩, .lowWarn, 7, true, true⟩], [], false⟩ }
  placed (placed (placed s ⟨4, 0⟩ 0x1A2B3C4D (live 8151)) ⟨4, 2⟩ 0x5E6F7081
    { live 8020 with band := .warnLow, conditions := Conditions.none.put .lowWarn true }) ⟨4, 3⟩ 0x92A3B4C5 (live 8400)

/-- An entry of the queue from a sensor. -/
def entry (id : SensorId) (kind : TelegramKind) (pc : BitVec 9) (tc : BitVec 8) : QueueEntry :=
  ⟨.rx0, -60, 0, ⟨id, kind, 1, false, pc, tc⟩, false⟩

/-- A session over the SINGLE axle 1 at its second position, with an ID staged for the first. -/
def learning : State :=
  { ready with
    axles := ready.axles.set 1 ⟨true, .truck, .single, 0, false, false⟩
    learn := ⟨some ⟨⟨1, 1⟩, [⟨1, 0⟩, ⟨1, 3⟩], 1, [(⟨1, 0⟩, some 7)], 0⟩, .none⟩
    queue := [entry 9 .learn 300 70]
    uptime := 100 }

/-- A supply that is LOW, at a sampling moment. -/
def sagging (recovery : Fin 2) : State := { ready with supply := ⟨.low, recovery, some 152⟩, uptime := 10025 }

/-- Port A in the middle of a transaction that a reset cut (R167). -/
def interrupted : State := { ready with portA := { ready.portA with selected := true, cut := true } }

/-! ## Well-formedness: one ill-formed command for each check -/

theorem test_sync_needs_a_bit : (Instr.syncDetected .rx0 [] (-60)).wf = false := by decide
theorem test_completion_needs_a_bit : (Instr.telegramCompletion .rx1 []).wf = false := by decide
theorem test_completion_has_at_most_64_bits : (Instr.telegramCompletion .rx1 (List.replicate 65 true)).wf = false := by decide
theorem test_no_clock_cycle_is_no_malformed_frame : (Instr.malformedCommandFrame .a []).wf = false := by decide
theorem test_command_frame_is_no_malformed_frame :
    (Instr.malformedCommandFrame .a (bitsOfBytes [0x00, 0x00])).wf = false := by decide
theorem test_well_formed_events :
    (Instr.syncDetected .rx0 [true] (-60)).wf = true ∧ (Instr.telegramCompletion .rx1 (List.replicate 64 true)).wf = true
      ∧ (Instr.malformedCommandFrame .a [true]).wf = true ∧ Instr.powerUp.wf = true := by decide

/-! ## Frames (the worked transaction pair of chapter 11) -/

theorem test_frame_of_map_remove :
    judgeFrame .a (bitsOfBytes [0x0F, 0x04, 0x01, 0x28, 0x04, 0x00]) = .command (.mapRemove .a 296 4 0) := by decide
theorem test_shift_out_of_the_slot :
    ({ Port.reset with reply := ⟨.ok, 296, []⟩ } : Port).shiftOut 6 = [0x00, 0x00, 0x01, 0x28, 0x00, 0x00] := by decide
theorem test_cut_transaction_is_not_taken :
    gives (.setEventMask .a 0) interrupted (fun t => t == interrupted.setPort .a { interrupted.portA with cut := false })
      = true := by decide
theorem test_sdo_shifts_the_slot_or_is_released :
    interrupted.sdoPin .b 0 = none
      ∧ (List.range 8).map (fun k => (interrupted.answer .a .unknown []).sdoPin .a k)
        = [false, false, false, false, true, false, true, true].map some := by decide
theorem test_short_frame_is_malformed :
    judgeFrame .a (bitsOfBytes [0x0F, 0x04, 0x01, 0x28, 0x04]) = .malformed := by decide

/-! ## Cold-equivalent pressure (cases A to F of chapter 3) -/

theorem test_case_a : coldPressure (gaugeOf 400) 880 80 20 = 8151 := by decide
theorem test_case_b : coldPressure (gaugeOf 400) 1013 80 20 = 8128 := by decide
theorem test_case_c : coldPressure (gaugeOf 0) 1013 90 20 = 0 := by decide
theorem test_case_d : coldPressure (gaugeOf 360) 1013 (-5) 20 = 9934 := by decide
theorem test_case_e_exact_half : coldPressure (gaugeOf 326) 1000 27 20 = 7937 := by decide
theorem test_case_f_over_range : coldPressure (gaugeOf 511) 1013 10 20 = 13236 := by decide

/-! ## Levels and bands (worked sequences of chapters 3 to 5) -/

theorem test_levels_laden : Profile.default.levels .laden = ⟨8100, 7200, 10350, 180, 900, 720⟩ := by decide
theorem test_levels_unladen : Profile.default.levels .unladen = ⟨6750, 6000, 8625, 150, 750, 600⟩ := by decide

theorem test_band_first_reading_counts :
    bandStep (Profile.default.levels .laden) (some 2) .ok .clear 8050 = ([], ⟨some .low, 1, some .warnLow⟩) := by decide
theorem test_band_second_reading_confirms :
    bandStep (Profile.default.levels .laden) (some 2) .ok ⟨some .low, 1, some .warnLow⟩ 8020 = ([.warnLow], .clear) := by
  decide
theorem test_band_confirms_at_the_floor :
    bandStep (Profile.default.levels .laden) (some 2) .ok ⟨some .low, 1, some .alarmLow⟩ 7500 = ([.warnLow], .clear) := by
  decide
theorem test_band_hysteresis_holds :
    bandStep (Profile.default.levels .laden) (some 2) .warnLow .clear 8200 = ([], .clear) := by decide
theorem test_band_alert_crossing :
    bandStep (Profile.default.levels .unladen) (some 1) .highWarn .clear 6500 = ([.ok, .warnLow], .clear) := by decide
theorem test_leak_rates : leakRate 8500 8280 750 = 176 ∧ leakRate 8500 7850 3000 = 130 ∧ leakRate 7850 7840 400 = 15 := by
  decide

/-! ## Power, time and supply -/

theorem test_power_up_while_writing_tears_the_image :
    gives .powerUp { ready with store := ⟨.writing ready.workingImage, none, false, .none⟩ } (fun t => t.nonvolatile == .torn)
      = true := by decide
theorem test_reset_n_keeps_the_waiting_commands :
    gives .resetN { ready with pending := [.nop .a], uptime := 9 } (fun t => t == { State.reset with pending := [.nop .a] })
      = true := by decide
theorem test_reset_cuts_a_running_transaction :
    gives .resetN interrupted (fun t => (t.port .a).cut && (t.port .a).selected && !(t.port .b).cut) = true := by decide
theorem test_power_loss : gives .powerLoss truck (fun t => t == State.reset) = true := by decide
theorem test_uptime_wraps : gives .uptimeTick { ready with uptime := 0xFFFFFFFF } (fun t => t.uptime == 0) = true := by decide
theorem test_supply_sags :
    gives (.vsenseSample 152) { ready with uptime := 10005 } (fun t => t.supply == ⟨.low, 0, some 152⟩
      && (t.port .b).flag .supply) = true := by decide
theorem test_supply_recovers_at_the_second_sample :
    gives (.vsenseSample 180) (sagging 1) (fun t => t.supply == ⟨.normal, 0, some 180⟩ && (t.port .a).flag .supply) = true := by
  decide

/-! ## Receive path -/

theorem test_sync_word_found :
    gives (.syncDetected .rx0 (false :: Claims.sync) (-150)) ready (fun t => t.rx0 == .collect (-120) []) = true := by decide
theorem test_violation_empties_the_history :
    gives (.lineCodingViolation .rx1) { ready with rx1 := .collect (-60) [true] } (fun t => t.rx1 == .hunt []) = true := by
  decide
theorem test_telegram_stored :
    gives (.telegramCompletion .rx1 (encodeTelegram ⟨0x1A2B3C4D, .periodic, 9, false, 400, 130⟩))
      { truck with rx1 := .collect (-62) [], lostPending := true, uptime := 52000 } (fun t =>
        t.queue == [⟨.rx1, -62, 52000, ⟨0x1A2B3C4D, .periodic, 9, false, 400, 130⟩, true⟩] && !t.lostPending) = true := by
  decide
theorem test_unmapped_telegram_dropped :
    gives (.telegramCompletion .rx1 (encodeTelegram ⟨0x11111111, .periodic, 9, false, 400, 130⟩))
      { truck with rx1 := .collect (-62) [] } (fun t => t.queue == [] && t.rx1 == .hunt []) = true := by decide

/-! ## Wheel evaluation -/

theorem test_reading_of_case_a :
    gives .entryTaken { truck with
        queue := [entry 0x1A2B3C4D .periodic 400 130], vehicle := { truck.vehicle with ambient := 880 } } (fun t =>
      (t.wheel ⟨4, 0⟩).pCold == some 8151 && (t.wheel ⟨4, 0⟩).heldTemp == some 80 && t.queue == []) = true := by decide
theorem test_learn_entry_completes_the_session :
    gives .entryTaken learning (fun t => t.slotId ⟨1, 0⟩ == some 7 && t.slotId ⟨1, 3⟩ == some 9 && t.generation == 1
      && t.learn == ⟨none, .completed⟩ && (t.wheel ⟨1, 3⟩).state == .awaiting) = true := by decide
theorem test_silence_expires_at_the_limit :
    gives (.silenceExpiry 4 0) { truck with uptime := 18000 } (fun t => (t.wheel ⟨4, 0⟩).state == .silent
      && t.active ⟨4, 0⟩ .silent && (t.wheel ⟨4, 0⟩).stale) = true := by decide
theorem test_silence_does_not_expire_before :
    gives (.silenceExpiry 4 0) { truck with uptime := 17999 } (fun t => t == { truck with uptime := 17999 }) = true := by
  decide

/-! ## Alerts -/

theorem test_oldest_acknowledged_entry_is_evicted :
    (AlertBlock.raising ⟨(List.replicate 63 ⟨⟨0, 0⟩, .leak, 1, true, false⟩) ++ [⟨⟨3, 3⟩, .batteryLow, 2, false, false⟩], [],
      true⟩ ⟨9, 3⟩ .silent 81000)
      = ⟨(List.replicate 63 ⟨⟨0, 0⟩, .leak, 1, true, false⟩) ++ [⟨⟨9, 3⟩, .silent, 81000, true, true⟩], [], false⟩ := by decide
theorem test_full_list_overflows :
    (AlertBlock.raising ⟨List.replicate 64 ⟨⟨0, 0⟩, .leak, 1, true, false⟩, [], false⟩ ⟨0, 3⟩ .silent 81200).overflow
      = [(⟨0, 3⟩, .silent)] := by decide
theorem test_ack_counts_own_marks :
    gives (.ackAlert .b 4 2 0xFF) truck (fun t => (t.port .b).reply == ⟨.ok, 295, [1]⟩
      && t.alerts.entries == [⟨⟨4, 2⟩, .lowWarn, 7, true, false⟩]) = true := by decide
theorem test_ack_of_an_unknown_kind :
    gives (.ackAlert .a 4 2 10) truck (fun t => (t.port .a).reply == ⟨.range, 295, []⟩) = true := by decide

/-! ## Tip permit: the drive axle 2 of the worked tipping cycle -/

/-- Axle 2 with the four pressures of the worked cycle, the right outer wheel as given, and the body as given. -/
def tipping (ro : Int) (body : BodyState) (permit : Permit) : State :=
  let s : State := { ready with
    axles := ready.axles.set 2 (dual true false)
    vehicle := { ready.vehicle with load := .laden, body := body }
    permit := permit }
  placed (placed (placed (placed s ⟨2, 0⟩ 1 (live 8800)) ⟨2, 1⟩ 2 (live 8760)) ⟨2, 2⟩ 3 (live 8000)) ⟨2, 3⟩ 4 (live ro)

theorem test_sides_within_the_limit_grant : (tipping 8650 .down Permit.reset).rawVerdict = .granted := by decide
theorem test_side_balance_withholds :
    (tipping 7950 .down Permit.reset).fullReasons = [⟨some 2, none, .sideBalance⟩] := by decide
theorem test_body_write_of_down_releases :
    gives (.setVehicleBody .a 0) (tipping 8400 .lowering ⟨.withheld, .evaluated, true, [], false⟩) (fun t =>
      t.permit == ⟨.granted, .evaluated, false, [], false⟩ && t.tipOkPin && (t.port .b).flag .permit) = true := by decide
theorem test_body_write_keeps_the_latch :
    gives (.setVehicleBody .a 3) (tipping 8400 .raising ⟨.withheld, .evaluated, true, [], false⟩) (fun t =>
      t.permit == ⟨.withheld, .evaluated, true, [], false⟩ && !(t.port .b).flag .permit) = true := by decide

/-! ## Vehicle state and configuration -/

/-- Axle 5 of the worked load change. -/
def loadChange : State :=
  placed (placed { ready with axles := ready.axles.set 5 (dual false false), vehicle := { ready.vehicle with load := .laden } }
    ⟨5, 0⟩ 1 (live 8700)) ⟨5, 1⟩ 2 (live 8650)

theorem test_load_write_reevaluates :
    gives (.setVehicleLoad .a 0) loadChange (fun t => t.alerts.entries == [⟨⟨5, 0⟩, .highWarn, 0, true, true⟩,
      ⟨⟨5, 1⟩, .highWarn, 0, true, true⟩] && (t.wheel ⟨5, 1⟩).band == .highWarn && (t.port .b).flag .vehicle
      && !(t.port .a).flag .vehicle) = true := by decide
theorem test_trailer_write_attaches :
    gives (.setVehicleTrailer .b 1) (placed { ready with
        axles := ready.axles.set 6 ⟨true, .trailer, .single, 0, false, false⟩, uptime := 50 } ⟨6, 0⟩ 1
        { live 8800 with state := .detached, stale := true }) (fun t =>
      t.wheel ⟨6, 0⟩ == { live 8800 with state := .awaiting, stale := true, silenceRef := some 50 }) = true := by decide
theorem test_motion_write_takes_an_expiry :
    gives (.setVehicleMotion .a 1) { truck with uptime := 900 } (fun t => (t.wheel ⟨4, 3⟩).state == .silent) = true := by decide
theorem test_lifted_set_leaves_out_axles :
    gives (.setVehicleLiftedSet .b 0b110) { ready with axles := ready.axles.set 1 (dual false true) } (fun t =>
      t.vehicle.lifted == 0b10 && (t.port .b).reply == ⟨.ok, 0, [4, 0, 2]⟩) = true := by decide
theorem test_ambient_is_clamped :
    gives (.setVehicleAmbient .a 1200) ready (fun t => t.vehicle.ambient == 1100 && (t.port .a).reply.bytes == [5, 0x04, 0x4C])
      = true := by decide
theorem test_config_clamps_and_counts :
    gives (.setConfig .a 2 (BitVec.ofInt 32 (-30))) ready (fun t => t.config.referenceTemp == -20
      && (t.port .a).reply == ⟨.ok, 1, [2, 0xFF, 0xFF, 0xFF, 0xEC]⟩ && (t.port .b).flag .image) = true := by decide

/-! ## Map edits -/

theorem test_assign_places_a_sensor :
    gives (.mapAssign .a 295 4 1 0x00000077) truck (fun t => t.slotId ⟨4, 1⟩ == some 0x00000077
      && (t.wheel ⟨4, 1⟩).state == .awaiting && (t.port .a).reply == ⟨.ok, 296, []⟩) = true := by decide
theorem test_assign_of_a_mapped_id :
    gives (.mapAssign .a 295 4 1 0x1A2B3C4D) truck (fun t => (t.port .a).reply == ⟨.inUse, 295, []⟩) = true := by decide
theorem test_remove_clears_its_alert :
    gives (.mapRemove .b 295 4 2) truck (fun t => t.alerts == ⟨[], [], false⟩ && t.wheel ⟨4, 2⟩ == .empty
      && (t.port .a).flag .alertCleared) = true := by decide
theorem test_set_axle_single_empties_the_inner_slots :
    gives (.mapSetAxle .a 295 4 1 0 0 0 0 0) truck (fun t => t.slotId ⟨4, 2⟩ == none && t.slotId ⟨4, 3⟩ == some 0x92A3B4C5)
      = true := by decide
theorem test_worked_move_in_keep_mode :
    gives (.mapMove .a 295 4 0 0 1 4 1 0) truck (fun t =>
      (t.slotId ⟨4, 0⟩, t.slotId ⟨4, 1⟩, t.slotId ⟨4, 2⟩) == (none, some 0x1A2B3C4D, some 0x5E6F7081)
      && (t.wheel ⟨4, 1⟩).state == .awaiting && (t.wheel ⟨4, 1⟩).stale && t.alerts == truck.alerts && t.generation == 296)
      = true := by decide
theorem test_worked_move_in_clear_mode :
    gives (.mapMove .a 295 4 0 0 1 4 1 1) truck (fun t => t.slotId ⟨4, 2⟩ == none && t.alerts == ⟨[], [], false⟩) = true := by
  decide
/-- Axle 4 with IMBALANCE on its left pair: the outer wheel's entry listed, the inner wheel's the one overflow member. -/
def overflowing : State :=
  let r : WheelRecord := { live 8000 with conditions := Conditions.none.put .imbalance true }
  { placed (placed truck ⟨4, 0⟩ 0x1A2B3C4D r) ⟨4, 1⟩ 0x0000AAAA r with
    alerts := ⟨[⟨⟨4, 0⟩, .imbalance, 0, true, true⟩], [(⟨4, 1⟩, .imbalance)], true⟩ }

theorem test_move_of_the_inner_wheel_clears_the_outer_first :
    gives (.mapMove .a 295 4 1 0 0 4 1 0) overflowing (fun t => t.alerts == ⟨[], [], true⟩) = true := by decide
/-- The left pair of a DUAL axle of a unit, both with IMBALANCE and the inner wheel with LOW_WARN: the list holds the outer
wheel's IMBALANCE, and the inner wheel's LOW_WARN is the one overflow member. -/
def ordered (a : Fin 10) (unit : AxleUnit) : State :=
  let imbalanced := Conditions.none.put .imbalance true
  let s : State := { ready with
    axles := ready.axles.set a ⟨true, unit, .dual, 0, false, false⟩
    vehicle := { ready.vehicle with trailer := .present }
    alerts := ⟨[⟨⟨a, 0⟩, .imbalance, 0, true, true⟩], [(⟨a, 1⟩, .lowWarn)], true⟩ }
  placed (placed s ⟨a, 0⟩ 1 { live 8151 with conditions := imbalanced }) ⟨a, 1⟩ 2
    { live 8020 with band := .warnLow, conditions := imbalanced.put .lowWarn true }

theorem test_remove_clears_the_conditions_before_the_pair :
    gives (.mapRemove .a 0 4 1) (ordered 4 .truck) (fun t => t.alerts == ⟨[], [], false⟩) = true := by decide
theorem test_set_axle_clears_the_conditions_before_the_pair :
    gives (.mapSetAxle .a 0 4 1 0 0 0 0 0) (ordered 4 .truck) (fun t => t.alerts == ⟨[], [], false⟩) = true := by decide
theorem test_trailer_write_clears_the_conditions_before_the_pairs :
    gives (.setVehicleTrailer .a 0) (ordered 6 .trailer) (fun t => t.alerts == ⟨[], [], false⟩
      && t.wheel ⟨6, 1⟩ == { live 8020 with state := .detached, stale := true }) = true := by decide
theorem test_move_clears_the_carried_before_the_overwritten :
    let low : WheelRecord := { live 8020 with band := .warnLow, conditions := Conditions.none.put .lowWarn true }
    gives (.mapMove .a 0 5 0 0 0 3 0 0)
      (placed (placed { ready with
          axles := (ready.axles.set 3 (dual false false)).set 5 (dual false false)
          alerts := ⟨[⟨⟨3, 0⟩, .lowWarn, 0, true, true⟩], [(⟨5, 0⟩, .lowWarn)], true⟩ } ⟨5, 0⟩ 1 low) ⟨3, 0⟩ 2 low)
      (fun t => t.alerts == ⟨[], [], false⟩ && t.slotId ⟨3, 0⟩ == some 1) = true := by decide
theorem test_move_readdresses_a_member_and_an_entry :
    gives (.mapMove .a 295 4 0 0 1 4 2 0)
      { (truck.setSlot ⟨4, 1⟩ (some 0x0000AAAA)) with
        wheels := (truck.setWheel ⟨4, 0⟩ { live 8151 with conditions := Conditions.none.put .batteryLow true }
          |>.setWheel ⟨4, 1⟩ { live 8151 with conditions := Conditions.none.put .sensorFault true }).wheels
        alerts := ⟨[⟨⟨4, 2⟩, .lowWarn, 7, true, true⟩, ⟨⟨4, 0⟩, .batteryLow, 8, false, true⟩], [(⟨4, 1⟩, .sensorFault)], true⟩ }
      (fun t => t.alerts == ⟨[⟨⟨4, 2⟩, .batteryLow, 8, false, true⟩], [(⟨4, 3⟩, .sensorFault)], true⟩) = true := by decide
theorem test_protect_sets_the_range :
    gives (.mapProtect .b 295 1 3 4) truck (fun t => t.protect == some ⟨3, 4⟩ && t.generation == 296) = true := by decide

/-! ## Profiles -/

/-- The staging copy of the worked refused commit: hysteresis 100 against low warn 100. -/
def stagedBad : State :=
  ready.setPort .b { ready.portB with staging := some ⟨2, 10, Profile.default.set 5 100⟩ }

theorem test_profile_select_loads_the_copy :
    gives (.profileSelect .a 1 7) ready (fun t => (t.port .a).staging == some ⟨1, 7, Profile.default⟩
      && (t.port .a).reply.bytes == [1, 7, 0, 200]) = true := by decide
theorem test_refused_commit_keeps_the_profile :
    gives (.profileWrite .b 80) stagedBad (fun t => t.profiles == ready.profiles && t.generation == 0
      && (t.port .b).reply == ⟨.badProfile, 0, [0, 80, 2, 10, 4]⟩) = true := by decide
theorem test_commit_moves_to_the_next_profile :
    gives (.profileWrite .a 9999) (ready.setPort .a { ready.portA with staging := some ⟨3, 10, Profile.default⟩ }) (fun t =>
      (t.profiles[3])[10] == 300 && (t.port .a).staging == some ⟨0, 0, Profile.default⟩ && t.generation == 1) = true := by decide
theorem test_profile_read_without_staging :
    gives (.profileRead .b 0) ready (fun t => (t.port .b).reply.bytes.length == 24) = true := by decide

/-! ## Learning -/

theorem test_learn_start_lists_the_positions :
    gives (.learnStart .a 0 1 1) { learning with learn := ⟨none, .aborted⟩ } (fun t => (t.port .a).reply == ⟨.ok, 0, [2]⟩
      && t.learn == ⟨some ⟨⟨1, 1⟩, [⟨1, 0⟩, ⟨1, 3⟩], 0, [], 100⟩, .none⟩) = true := by decide
theorem test_learn_skip_completes :
    gives (.learnSkip .b) learning (fun t => (t.port .b).reply == ⟨.ok, 1, [2]⟩ && t.slotId ⟨1, 0⟩ == some 7
      && t.slotId ⟨1, 3⟩ == none) = true := by decide
theorem test_learn_finish_applies :
    gives (.learnFinish .b) learning (fun t => (t.port .b).reply == ⟨.ok, 1, [1]⟩ && t.learn == ⟨none, .finishedEarly⟩) = true := by
  decide
theorem test_learn_abort_keeps_the_map :
    gives (.learnAbort .a) learning (fun t => t.slots == learning.slots && t.generation == 0) = true := by decide
theorem test_timer_expires_at_the_timeout :
    gives .positionTimerExpiry { learning with uptime := 1200 } (fun t => t.learn == ⟨none, .timedOut⟩) = true := by decide
theorem test_learn_status :
    gives (.learnStatus .a) learning (fun t => (t.port .a).reply.bytes
      == [1, 0, 1, 1, 2, 1, 1, 3, 0, 0x04, 0x4C, 1, 0, 0, 0, 0, 7]) = true := by decide

/-! ## Image store -/

theorem test_commit_at_normal_supply_begins_a_write :
    gives (.storeCommit .a) ready (fun t => t.store.state == .writing ready.workingImage
      && (t.port .a).reply == ⟨.accepted, 0, [3]⟩) = true := by decide
theorem test_commit_at_low_supply_waits :
    gives (.storeCommit .b) (sagging 0) (fun t => t.store.state == .pending && (t.port .b).reply == ⟨.accepted, 0, [2]⟩)
      = true := by decide
theorem test_write_begins_at_normal_supply :
    gives .writeBegin { ready with store := ⟨.pending, none, false, .none⟩ } (fun t =>
      t.store.state == .writing ready.workingImage) = true := by decide
theorem test_write_completion_with_a_fault :
    gives (.writeCompletion false) { ready with store := ⟨.writing ready.workingImage, some 3, true, .ok⟩ } (fun t =>
      t.store == ⟨.idle, none, false, .fault⟩ && (t.port .b).flag .store) = true := by decide
theorem test_load_without_an_image :
    gives .loadCompletion State.reset (fun t => t.store == ⟨.idle, none, false, .none⟩ && t.permit == ready.permit
      && (t.port .a).flag .store && !(t.port .a).flag .permit) = true := by decide

/-! ## Port commands -/

theorem test_nop_replies_the_generation : gives (.nop .b) truck (fun t => (t.port .b).reply == ⟨.ok, 295, []⟩) = true := by decide
theorem test_read_id_names_the_port :
    gives (.readId .b) ready (fun t => (t.port .b).reply.bytes == [0x04, 0x18, 0x01, 0x01, 10, 40, 32, 64]) = true := by decide
theorem test_get_events_clears_own_flags :
    gives (.getEvents .a) (truck.setFlagBoth .queueLost) (fun t => (t.port .a).reply.bytes == [0x01, 0x01]
      && (t.port .a).flags == 0 && (t.port .b).flag .queueLost) = true := by decide
theorem test_event_mask_unmasks_the_line :
    gives (.setEventMask .a 0xFFFE) ready (fun t => t.attention .a && !t.attention .b && (t.port .a).reply.bytes == [0x07, 0xFE])
      = true := by decide
theorem test_port_reset_renews_the_marks :
    gives (.portReset .a) { truck with alerts := ⟨[⟨⟨4, 2⟩, .lowWarn, 7, false, false⟩], [], false⟩ } (fun t =>
      t.alerts.entries == [⟨⟨4, 2⟩, .lowWarn, 7, true, false⟩] && (t.port .a).flags == 0b101) = true := by decide
theorem test_malformed_frame_reply :
    gives (.malformedCommandFrame .b (bitsOfBytes [0x1D, 0x00])) ready (fun t => (t.port .b).reply == ⟨.unknown, 0, []⟩)
      = true := by decide
theorem test_set_vehicle_of_an_unknown_item :
    gives (.malformedCommandFrame .b (bitsOfBytes [0x0A, 0x03, 0x06, 0x00, 0x00])) ready (fun t =>
      (t.port .b).reply == ⟨.range, 0, []⟩) = true := by decide
theorem test_read_wheels_is_bounded :
    gives (.readWheels .a 0 0 9 3) ready (fun t => (t.port .a).reply.bytes.length == 240) = true := by decide
theorem test_read_axles_from_axle_9 :
    gives (.readAxles .a 9 255) ready (fun t => (t.port .a).reply.bytes.length == 21) = true := by decide
theorem test_read_alerts :
    gives (.readAlerts .b 0) truck (fun t => (t.port .b).reply.bytes == [1, 0, 0, 0, 4, 2, 0, 3, 0, 0, 0, 7]) = true := by decide
theorem test_read_permit :
    gives (.readPermit .a) ready (fun t => (t.port .a).reply.bytes == [2, 1, 0xFF, 4, 0]) = true := by decide
theorem test_read_vehicle :
    gives (.readVehicle .a) State.reset (fun t => (t.port .a).reply.bytes
      == [0, 0, 0, 0, 0, 0, 0, 0, 0, 0, 0, 0x03, 0xF5, 0, 0, 0xFF, 0xFF, 0, 0, 0, 0]) = true := by decide
theorem test_read_config :
    gives (.readConfig .a) ready (fun t => (t.port .a).reply.bytes.take 8 == [0, 0, 0, 90, 0, 0, 0x07, 0x08]) = true := by decide
theorem test_store_status_in_loading :
    gives (.storeStatus .a) State.reset (fun t => (t.port .a).reply.bytes == [0, 0]) = true := by decide

/-! ## Witnesses: for each statement with hypotheses, a state and operands that meet them -/

theorem every_pos {P : Pos → Prop} (h : ∀ a : Fin 10, ∀ k : Fin 4, P ⟨a, k⟩) (p : Pos) : P p := h p.axle p.slot

theorem witness_StepRunsTheFrontCommand : State.reset.pending = [] := rfl

theorem witness_IdentificationNopAndEventReplies : Claims.Takes State.reset .a ∧ Claims.Takes ready .b := by decide

theorem witness_EventMaskMovesTheAttentionLine :
    Claims.Takes ready .a ∧ ready.loading = false ∧ ∃ t, exec (.portReset .a) ready = .next t := ⟨rfl, rfl, _, rfl⟩

theorem witness_PortResetRestartsOneInterface :
    (Claims.Takes State.reset .a ∧ State.reset.loading = true) ∧ Claims.Takes ready .a ∧ ready.loading = false
      ∧ ∃ t, exec (.portReset .a) ready = .next t := ⟨by decide, rfl, rfl, _, rfl⟩

theorem witness_ReplySlotIsShiftedOutNext :
    (List.replicate 255 (0 : Byte)).length ≤ 255 ∧ PortId.b ≠ .a ∧ (ready.port .a).selected = false
      ∧ ((interrupted.port .a).selected = true
        ∧ ((interrupted.port .a).shiftOut (12 / 8 + 1))[12 / 8]? = some 0x00)
      ∧ (interrupted.port .a).cut = true ∧ Claims.EndsOn .a (.nop .a) ∧ Claims.EndsOn .a (.malformedCommandFrame .a [true]) :=
  ⟨by decide, by decide, rfl, by decide, rfl, .inl ⟨[0x00, 0x00], rfl⟩, .inr ⟨_, rfl⟩⟩

theorem witness_MalformedFramesChangeOnlyTheReply :
    Claims.Takes ready .b ∧ 5 < (6 : Byte).toNat ∧ encodeFrame (.nop .b) = some (.b, [0x00, 0x00])
      ∧ (([true] : List Bool) ≠ [] ∧ [true].length % 8 ≠ 0)
      ∧ ((List.replicate 8 true) ≠ [] ∧ (List.replicate 8 true).length < 16)
      ∧ ([] : List Byte).length < (1 : Byte).toNat
      ∧ ((0 : Byte).toNat ≤ ([] : List Byte).length ∧ 0x1C < (0x1D : Byte).toNat)
      ∧ ((1 : Byte).toNat ≤ [(0 : Byte)].length ∧ (0x1C : Byte).toNat ≤ 0x1C
        ∧ some (1 : Byte).toNat ≠ [0, 0, 0, 2, 0, 4, 2, 1, 3, 0, 3, 0, 5, 0, 8, 4, 9, 9, 5, 2, 2, 1, 4, 0, 0, 0, 0, 0, 0][(0x1C : Byte).toNat]?) := by
  decide

theorem witness_CommandFrameRoundTrip : encodeFrame (.setVehicleAmbient .b 1013) = some (.b, [0x0A, 3, 5, 0x03, 0xF5]) := by
  decide

theorem witness_OtherCommandsAreBusyDuringLoading :
    Claims.Takes State.reset .a ∧ State.reset.loading = true
      ∧ (encodeFrame (.portReset .a) = some (.a, 0x04 :: [0x00]) ∧ (0x04 : Byte) ∉ Claims.takenDuringLoading)
      ∧ (encodeFrame (.storeCommit .a) = some (.a, 0x1B :: [0x00]) ∧ (0x1B : Byte) ∉ Claims.takenDuringLoading) := by decide

theorem witness_ReadCommandsChangeOnlyTheReply :
    Claims.Takes ready .a
      ∧ ready.loading = false ∧ ((3 : Byte).toNat = (3 : Fin 4).val ∧ 3 < (4 : Byte).toNat) ∧ 63 < (64 : Byte).toNat
      ∧ ((9 : Byte).toNat ≤ 9 ∧ 9 < (10 : Byte).toNat) ∧ ((3 : Byte).toNat ≤ 3 ∧ 3 < (4 : Byte).toNat) := by decide

theorem witness_WheelRecordLayout :
    let r := { live 18340 with heldTemp := some 204, leakCount := 2 }
    PendingLaw r.pending ∧ r.leakCount ≤ 2 ∧ (∀ c, r.pCold = some c → 0 ≤ c ∧ c ≤ 18340)
      ∧ ∀ h, r.heldTemp = some h → -50 ≤ h ∧ h ≤ 204 :=
  ⟨.inl rfl, by decide, fun _ h => by cases h; decide, fun _ h => by cases h; decide⟩

theorem witness_PermitStoreAndAlertReplyLayouts :
    Claims.Takes State.reset .a ∧ Claims.Takes ready .a
      ∧ State.reset.loading = true ∧ ready.loading = false ∧ (63 : Byte).toNat ≤ 63 := by decide

theorem witness_ReceiverFindsTheSyncWord :
    ready.receiver .rx0 = .hunt []
      ∧ (Claims.sync ≠ [] ∧ (∀ k, k < Claims.sync.length → 0 < k → Claims.lastSixteen ([] ++ Claims.sync.take k) ≠ Claims.sync)
        ∧ Claims.lastSixteen ([] ++ Claims.sync) = Claims.sync)
      ∧ ([true] ≠ [] ∧ (∀ k, k < [true].length → 0 < k → Claims.lastSixteen ([] ++ [true].take k) ≠ Claims.sync)
        ∧ Claims.lastSixteen ([] ++ [true]) ≠ Claims.sync)
      ∧ (ready.setReceiver .rx1 (.collect (-60) [])).receiver .rx1 = .collect (-60) [] := by decide

/-- A telegram of the mapped sensor X. -/
def fromX : Telegram := ⟨0x1A2B3C4D, .periodic, 9, false, 400, 130⟩

theorem truck_passes_fromX : Claims.Passes truck fromX := ⟨rfl, by decide, by decide, .inl ⟨⟨4, 0⟩, by decide⟩⟩

theorem not_passes_unmapped : ¬ Claims.Passes truck ⟨0x11111111, .periodic, 9, false, 400, 130⟩ := by
  rintro ⟨_, _, _, ⟨p, h⟩ | ⟨⟨l, h⟩, _⟩⟩
  · exact every_pos (P := fun p => truck.slotId p ≠ some 0x11111111) (by decide) p h
  · cases h

/-- The bytes 0 to 6 of that telegram (R179), and its check byte. -/
def bytesOfX : List Byte := [0x1A, 0x2B, 0x3C, 0x4D, 0x25, 0x90, 0x82]

theorem test_bytes_of_a_telegram :
    Claims.telegramOf 0x1A 0x2B 0x3C 0x4D 0x25 0x90 0x82 = fromX ∧ Claims.crc8 bytesOfX = 0x8E
      ∧ encodeTelegram fromX = Claims.bits (bytesOfX ++ [0x8E]) := by decide

theorem witness_CompletedTelegramIsFilteredAndQueued :
    let s := truck.setReceiver .rx1 (.collect (-62) [false, false, false])
    let bits := (Claims.bits (bytesOfX ++ [0x8E])).drop 3
    (s.receiver .rx1 = .collect (-62) [false, false, false] ∧ bits ≠ []
        ∧ [false, false, false] ++ bits = Claims.bits [0x1A, 0x2B, 0x3C, 0x4D, 0x25, 0x90, 0x82, 0x8E])
      ∧ (0x00 : Byte) ≠ Claims.crc8 bytesOfX
      ∧ (sagging 0).supply.state = .low ∧ truck.supply.state = .normal
      ∧ truck.queue.length < 32 ∧ 32 ≤ (List.replicate 32 (entry 7 .periodic 0 0)).length
      ∧ [true].length + (List.replicate 62 true).length < 64 ∧ truck.receiver .rx0 = .hunt [] := by decide

theorem witness_FilterOfACompletedTelegram :
    Claims.Passes truck fromX ∧ ¬ Claims.Passes truck ⟨0x11111111, .periodic, 9, false, 400, 130⟩ :=
  ⟨truck_passes_fromX, not_passes_unmapped⟩

theorem witness_TelegramSentWholeReachesTheQueue :
    truck.receiver .rx1 = .hunt [] ∧ truck.supply.state = .normal ∧ truck.queue.length < 32 ∧ Claims.Passes truck fromX :=
  ⟨rfl, rfl, by decide, truck_passes_fromX⟩

theorem witness_TakingFreesTheHeadPlace :
    let e := { entry 0x1A2B3C4D .periodic 400 130 with lost := true }
    ({ truck with queue := [e] } : State).queue = e :: [] ∧ Claims.NotHandedOver { truck with queue := [e] } e ∧ e.lost = true :=
  ⟨rfl, .inl (by decide), rfl⟩

theorem truck_lookup_X : truck.lookup 0x1A2B3C4D = some ⟨4, 0⟩ := by decide

theorem witness_EntriesThatAreNoReadings :
    (let e := entry 0x11111111 .learn 400 130
     let s := { truck with queue := [e] }
     s.queue = e :: [] ∧ (∀ p, s.slotId p ≠ some e.telegram.id) ∧ Claims.NotHandedOver s e)
    ∧ (let e := entry 0x1A2B3C4D .periodic 400 130
       let s := ({ truck with queue := [e] } : State).setWheel ⟨4, 0⟩
         { live 8151 with lastSequence := some 1, lastAccept := some (0 - 299) }
       s.queue = e :: [] ∧ e.lost = false ∧ s.lookup e.telegram.id = some ⟨4, 0⟩ ∧ Claims.NotHandedOver s e
       ∧ (s.wheel ⟨4, 0⟩).state = .live ∧ Claims.IsRepeat (s.wheel ⟨4, 0⟩) e)
    ∧ (let e := entry 0x1A2B3C4D .periodic 400 130
       let s := ({ truck with queue := [e] } : State).setWheel ⟨4, 0⟩ { live 8151 with state := .detached }
       s.queue = e :: [] ∧ e.lost = false ∧ s.lookup e.telegram.id = some ⟨4, 0⟩ ∧ Claims.NotHandedOver s e
       ∧ (s.wheel ⟨4, 0⟩).state = .detached)
    ∧ truck.queue = [] :=
  ⟨⟨rfl, every_pos (by decide), .inr rfl⟩,
   ⟨rfl, rfl, by decide, .inr rfl, by decide, ⟨_, by decide, rfl, by decide⟩⟩,
   ⟨rfl, rfl, by decide, .inr rfl, by decide⟩, rfl⟩

theorem witness_FaultEntryRaisesSensorFault :
    let e := entry 0x1A2B3C4D .fault 0 3
    let s := { truck with queue := [e] }
    s.queue = e :: [] ∧ e.lost = false ∧ s.lookup e.telegram.id = some ⟨4, 0⟩ ∧ e.telegram.kind = .fault
      ∧ Claims.Accepts (s.wheel ⟨4, 0⟩) e :=
  ⟨rfl, rfl, by decide, rfl, .inl ⟨.inr (by decide), by rintro ⟨t, h, _⟩; exact absurd h (by decide)⟩⟩

theorem witness_ReadingUpdatesTheRecord :
    let e := entry 0x1A2B3C4D .alert 511 255
    let s := { truck with queue := [e] }
    s.queue = e :: [] ∧ e.lost = false ∧ s.lookup e.telegram.id = some ⟨4, 0⟩ ∧ e.telegram.kind ≠ .fault
      ∧ Claims.NotHandedOver s e ∧ Claims.Accepts (s.wheel ⟨4, 0⟩) e
      ∧ (e.telegram.pressureCode.toNat = 511 ∧ e.telegram.tempCode.toNat = 255)
      ∧ ¬ ((511 : BitVec 9).toNat = 511 ∧ (254 : BitVec 8).toNat = 255) ∧ (s.wheel ⟨4, 0⟩).state ≠ .silent
      ∧ Claims.Accepts { live 8151 with state := .silent } e :=
  ⟨rfl, rfl, by decide, by decide, .inr rfl, .inl ⟨.inr (by decide), by rintro ⟨t, h, _⟩; exact absurd h (by decide)⟩,
    by decide, by decide, by decide, .inr rfl⟩

theorem witness_ColdPressureIsRoundedAndBounded :
    ((500 : Int) ≤ 9150 ∧ (9150 : Int) ≤ 13850 ∧ (253 : Int) ≤ 293 ∧ (293 : Int) ≤ 313 ∧ (223 : Int) ≤ 300
      ∧ (300 : Int) ≤ 477)
    ∧ (((9150 : Int) * 293 = 8936 * 300 + 150 ∧ (0 : Int) ≤ 150 ∧ (150 : Int) < 300) ∧ (300 : Int) ≤ 2 * 150)
    ∧ (((10880 : Int) * 293 = 9030 * 353 + 250) ∧ (353 : Int) ≤ 2 * 250)
    ∧ (((11013 : Int) * 293 = 9141 * 353 + 36) ∧ 2 * (36 : Int) < 353)
    ∧ ((0 : Int) ≤ 12750 ∧ (500 : Int) ≤ 1100 ∧ (-50 : Int) ≤ 204 ∧ (-20 : Int) ≤ 40) := by decide

theorem default_committed : Claims.Committed Profile.default := by unfold Claims.Committed; decide

theorem witness_LevelsOfAProfile : Claims.Committed Profile.default ∧ Claims.Committed (Profile.default.set 1 12000) :=
  ⟨default_committed, by unfold Claims.Committed; decide⟩

theorem witness_LevelRelations : Claims.Committed (Profile.default.set 0 2000) := by unfold Claims.Committed; decide

/-- The clauses of PressureBandStep, by number, that hold at a band, a pending state and a P_cold under the laden
levels. -/
def bandClause (b : Band) (q : Pending) (p : Int) : Nat :=
  let l := Profile.default.levels .laden
  let z := Claims.zone l.lowAlarm l.lowWarn l.highWarn p
  let zh := Claims.zone (l.lowAlarm + l.hysteresis) (l.lowWarn + l.hysteresis) (l.highWarn - l.hysteresis) p
  if z = b then 1
  else if b ≠ .ok ∧ (zh = .ok ∨ (Claims.rank b < Claims.rank zh ∧ Claims.rank zh < 0)
      ∨ (0 < Claims.rank zh ∧ Claims.rank zh < Claims.rank b)) then 2
  else if b ≠ .ok ∧ zh ≠ .ok ∧ Claims.sideOf zh ≠ Claims.sideOf b then (if z = .ok then 3 else 4)
  else if z ≠ .ok ∧ (b = .ok ∨ (Claims.sideOf z = Claims.sideOf b ∧ (Claims.rank b).natAbs < (Claims.rank z).natAbs)) then
    (if q.direction ≠ Claims.sideOf z then 5 else 6)
  else 7

theorem witness_PressureBandStep :
    bandClause .ok .clear 8100 = 1 ∧ bandClause .warnLow .clear 8280 = 2 ∧ bandClause .highWarn .clear 8200 = 3
      ∧ bandClause .highWarn .clear 8000 = 4 ∧ bandClause .ok .clear 8099 = 5
      ∧ bandClause .ok ⟨some .low, 1, some .warnLow⟩ 8099 = 6 ∧ bandClause .alarmLow .clear 7379 = 7
      ∧ PendingLaw .clear ∧ PendingLaw ⟨some .low, 1, some .warnLow⟩ :=
  ⟨by decide, by decide, by decide, by decide, by decide, by decide, by decide, .inl rfl, .inr ⟨.warnLow, .low, rfl, rfl⟩⟩

theorem witness_TemperatureBandStep :
    let after := Claims.tempAfter truck.profiles[(truck.axle 4).profile]
    after .ok 140 = .hotWarn ∧ after .hotWarn 160 = .hotAlarm ∧ after .hotAlarm 154 = .hotWarn
      ∧ after .hotAlarm 155 = .hotAlarm ∧ after .hotWarn 134 = .ok ∧ after .hotWarn 135 = .hotWarn
      ∧ after .hotAlarm 255 = .hotAlarm := by decide

theorem witness_LeakRateIsJudged :
    (truck.wheel ⟨4, 0⟩).leakRef = none
      ∧ ({ live 8151 with leakRef := some (8500, 1000) } : WheelRecord).leakRef = some (8500, 1000)
      ∧ ((1299 : Uptime) - 1000).toNat < 300 ∧ 300 ≤ ((1300 : Uptime) - 1000).toNat
      ∧ (truck.profiles[(truck.axle 4).profile])[7] = 200
      ∧ (200 : Int) ≤ ((8500 - 8300) * 600 : Int).tdiv 600 ∧ ((8500 - 8401) * 600 : Int).tdiv 600 < (200 : Int).tdiv 2
      ∧ ((200 : Int).tdiv 2 ≤ ((8500 - 8400) * 600 : Int).tdiv 600 ∧ ((8500 - 8400) * 600 : Int).tdiv 600 < 200) := by decide

theorem witness_DualPairIsCompared :
    (let s := tipping 8650 .down Permit.reset
     let p : Pos := ⟨2, 3⟩
     (s.axle p.axle).kind = .dual ∧ (s.wheel p.pairLow).state = .live ∧ (s.wheel p.pairHigh).state = .live
     ∧ (s.wheel p.pairLow).pCold = some 8000 ∧ (s.wheel p.pairHigh).pCold = some 8650
     ∧ (s.levelsOf 2).imbalance = 900 ∧ (s.levelsOf 2).hysteresis = 180)
    ∧ (900 : Int) < |(8000 : Int) - 8901| ∧ (|(8000 : Int) - 8720| ≤ 900 ∧ |(8000 : Int) - 8720| ≤ 900 - 180)
    ∧ (|(8000 : Int) - 8721| ≤ 900 ∧ (900 : Int) - 180 < |(8000 : Int) - 8721|)
    ∧ (learning.axle 1).kind = .single ∧ (truck.wheel ⟨4, 1⟩).pCold = none := by decide

theorem due_at_the_limit : Claims.Due { truck with uptime := 18000 } ⟨4, 0⟩ :=
  ⟨.inr (by decide), rfl, 0, by decide, by unfold Claims.silenceLimit; decide⟩

theorem witness_SilenceExpiryIsTakenWhenDue :
    Claims.Due { truck with uptime := 18000 } ⟨4, 0⟩ ∧ ¬ Claims.Due { truck with uptime := 17999 } ⟨4, 0⟩ := by
  refine ⟨due_at_the_limit, ?_⟩
  rintro ⟨_, _, r, h, hle⟩
  have hr : (({ truck with uptime := 17999 } : State).wheel ⟨4, 0⟩).silenceRef = some 0 := by decide
  rw [hr] at h
  cases h
  revert hle
  unfold Claims.silenceLimit
  decide

/-- A list of 64 entries, the first of which both ports have acknowledged or not. -/
def fullList (mark : Bool) : List AlertEntry :=
  ⟨⟨3, 3⟩, .batteryLow, 2, mark, mark⟩ :: List.replicate 63 ⟨⟨0, 0⟩, .leak, 1, true, false⟩

theorem witness_RaisingsAndClearingsReachTheAlertList :
    truck.active ⟨4, 2⟩ .lowWarn = true ∧ truck.active ⟨4, 2⟩ .leak = false ∧ truck.alerts.entries.length < 64
      ∧ (64 ≤ (fullList false).length ∧ fullList false = [] ++ ⟨⟨3, 3⟩, .batteryLow, 2, false, false⟩
          :: List.replicate 63 ⟨⟨0, 0⟩, .leak, 1, true, false⟩)
      ∧ (64 ≤ (fullList true).length ∧ ∀ x ∈ fullList true, x.unackA = true ∨ x.unackB = true)
      ∧ truck.alerts.entries = [] ++ ⟨⟨4, 2⟩, .lowWarn, 7, true, true⟩ :: []
      ∧ ∀ x ∈ ready.alerts.entries, ¬ (x.pos = ⟨4, 2⟩ ∧ x.kind = .lowWarn) := by decide

theorem witness_AcknowledgementClearsOwnMarks :
    Claims.Takes State.reset .a ∧ Claims.Takes ready .a
      ∧ State.reset.loading = true ∧ ready.loading = false ∧ 9 < (10 : Byte).toNat ∧ 3 < (4 : Byte).toNat
      ∧ (9 < (10 : Byte).toNat ∧ (10 : Byte) ≠ 0xFF) ∧ (9 : Byte).toNat ≤ 9 ∧ (3 : Byte).toNat ≤ 3 := by decide

theorem witness_SupplySampleIsJudged :
    (1 : Uptime).toNat % 5 ≠ 0 ∧ ((5 : Uptime).toNat % 5 = 0 ∧ (5 : Uptime) ≠ 0)
      ∧ (ready.supply.state = .normal ∧ ready.config.supplyThreshold ≤ ((Claims.nearest 0 400 160).toNat : Int)
        ∧ ((Claims.nearest 0 400 159).toNat : Int) < ready.config.supplyThreshold)
      ∧ ((sagging 0).supply.state = .low ∧ ((Claims.nearest 0 400 174).toNat : Int) < (sagging 0).config.supplyThreshold + 15
        ∧ (sagging 0).config.supplyThreshold + 15 ≤ ((Claims.nearest 0 400 175).toNat : Int)
        ∧ (sagging 0).supply.recovery = 0 ∧ (sagging 1).supply.recovery = 1) := by decide

theorem tipping_considered (ro : Int) (b : BodyState) (x : Permit) : Claims.Considered (tipping ro b x) 2 :=
  ⟨rfl, rfl, .inl rfl, show (0 : BitVec 10).getLsbD 2 = false by decide⟩

theorem witness_ReasonsFollowTheWheels :
    (∀ a, ¬ Claims.Considered ready a) ∧ (∃ a, Claims.Considered (tipping 8650 .down Permit.reset) a)
      ∧ State.reset.permit.basis = .starting ∧ ready.permit.basis = .evaluated ∧ ready.vehicle.body = .down
      ∧ (tipping 8650 .raised ⟨.granted, .evaluated, false, [], false⟩).vehicle.body ≠ .down
      ∧ (tipping 8650 .raised ⟨.withheld, .evaluated, true, [], false⟩).permit.verdict = .withheld :=
  ⟨by unfold Claims.Considered; decide, ⟨2, tipping_considered ..⟩, rfl, rfl, rfl, by decide, rfl⟩

/-- The body RAISED with the verdict held, and a command waiting. -/
def held : State := { tipping 8400 .raised ⟨.withheld, .evaluated, true, [], false⟩ with pending := [.setVehicleBody .a 3] }

theorem witness_WithheldVerdictIsHeldByTheBody :
    PermitLaw held ∧ ∃ t, step held = .next t ∧ held.vehicle.body ≠ .down ∧ t.vehicle.body ≠ .down
      ∧ held.permit.verdict = .withheld := by
  refine ⟨⟨by decide, by decide, by decide⟩, _, rfl, by decide, ?_, rfl⟩
  decide

theorem witness_PermitFlagFollowsTheVerdict :
    (∃ t, exec (.setVehicleBody .a 0) held = .next t ∧ ¬ Claims.Restarts (.setVehicleBody .a 0)
      ∧ t.permit.verdict ≠ held.permit.verdict)
    ∧ ∃ t, exec (.setVehicleBody .a 3) held = .next t ∧ ¬ Claims.Restarts (.setVehicleBody .a 3)
      ∧ ¬ (t.permit.verdict ≠ held.permit.verdict ∨ t.permit.latched ≠ held.permit.latched) := by
  refine ⟨⟨_, rfl, by unfold Claims.Restarts; decide, ?_⟩, ⟨_, rfl, by unfold Claims.Restarts; decide, ?_⟩⟩ <;> decide

theorem truck_records : RecordLaw truck where
  empty := every_pos (by decide)
  values := every_pos (by decide)

theorem truck_pairs : PairLaw truck where
  dual := every_pos (by decide)
  live := every_pos (by decide)
  both := every_pos (by decide)

theorem truck_counts : CountLaw truck where
  pending := every_pos (P := fun p => PendingLaw (truck.wheel p).pending) fun a k => .inl (by revert a k; decide)
  floor p z h := by
    have none := every_pos (P := fun p => (truck.wheel p).pending.floor = none) (by decide) p
    rw [none] at h
    cases h
  leak := every_pos (by decide)

/-- Truck with a reading of X waiting that lies below its low-warn level. -/
def sinking : State :=
  { (truck.setWheel ⟨4, 0⟩ { live 8151 with pending := ⟨some .low, 1, some .warnLow⟩ }) with
    queue := [entry 0x1A2B3C4D .periodic 320 70] }

theorem witness_WheelAndAlertFlagsFollowTheRecords :
    (∃ t, exec .entryTaken sinking = .next t ∧ ¬ Claims.Restarts .entryTaken ∧ Instr.entryTaken ≠ .loadCompletion
      ∧ sinking.active ⟨4, 0⟩ .lowWarn = false ∧ t.active ⟨4, 0⟩ .lowWarn = true
      ∧ ¬ Claims.SameJudged (sinking.wheel ⟨4, 0⟩) (t.wheel ⟨4, 0⟩))
    ∧ (∃ t, exec (.mapRemove .a 295 4 2) truck = .next t ∧ ¬ Claims.Restarts (.mapRemove .a 295 4 2)
      ∧ truck.active ⟨4, 2⟩ .lowWarn = true ∧ t.active ⟨4, 2⟩ .lowWarn = false)
    ∧ RecordLaw truck ∧ PairLaw truck ∧ CountLaw truck
    ∧ ∃ t, exec .entryTaken truck = .next t ∧ Claims.FlagsByRecordsAlone truck t .entryTaken ∧ t = truck := by
  refine ⟨⟨_, rfl, by unfold Claims.Restarts; decide, by decide, by decide, by decide, ?_⟩,
    ⟨_, rfl, by unfold Claims.Restarts; decide, by decide, by decide⟩, truck_records, truck_pairs, truck_counts,
    ⟨_, rfl, .inl rfl, by decide⟩⟩
  rintro ⟨_, h, _⟩
  exact absurd h (by decide)

theorem witness_BodyWriteMovesTheLatch :
    Claims.Takes State.reset .a ∧ Claims.Takes ready .a ∧ Claims.Takes held .a
      ∧ State.reset.permit.basis = .starting ∧ ready.permit.basis = .evaluated
      ∧ (BodyState.down = .down ∧ BodyState.raising ≠ .down) ∧ held.permit.verdict = .withheld
      ∧ (tipping 8650 .down ⟨.granted, .evaluated, false, [], false⟩).permit.verdict = .granted := by decide

theorem witness_LoadWriteReevaluatesPresentAxles :
    Claims.Takes truck .a
      ∧ (truck.axle 4).present = true ∧ Claims.LiveAt truck ⟨4, 0⟩ 8151 ∧ Claims.LiveAt truck (Pos.pairLow ⟨4, 3⟩) 8020
      ∧ Claims.LiveAt truck (Pos.pairHigh ⟨4, 3⟩) 8400 := by unfold Claims.LiveAt; decide

/-- A coupled trailer axle with a LIVE wheel and a session over it. -/
def coupled : State :=
  placed { ready with
    axles := ready.axles.set 6 ⟨true, .trailer, .single, 0, false, false⟩
    vehicle := { ready.vehicle with trailer := .present }
    learn := ⟨some ⟨⟨6, 6⟩, [⟨6, 0⟩, ⟨6, 3⟩], 0, [], 0⟩, .none⟩ } ⟨6, 0⟩ 1 (live 8800)

theorem witness_TrailerWriteDetachesAndAttaches :
    Claims.Takes ready .a ∧ Claims.Takes coupled .a ∧ Claims.Takes truck .a
      ∧ ready.vehicle.trailer = .absent ∧ coupled.vehicle.trailer = .present ∧ Claims.SessionHasTrailer coupled
      ∧ ¬ Claims.SessionHasTrailer truck
      ∧ ((coupled.axle 6).present = true ∧ (coupled.axle 6).unit = .trailer ∧ (coupled.wheel ⟨6, 0⟩).state ≠ .empty
        ∧ (coupled.wheel ⟨6, 0⟩).state ≠ .detached ∧ (coupled.wheel ⟨6, 3⟩).state = .empty)
      ∧ ¬ ((coupled.axle 0).present = true ∧ (coupled.axle 0).unit = .trailer)
      ∧ ((coupled.setWheel ⟨6, 0⟩ { live 8800 with state := .detached }).wheel ⟨6, 0⟩).state = .detached :=
  ⟨rfl, rfl, rfl, rfl, rfl, ⟨6, ⟨_, rfl, by decide, by decide⟩, by decide, by decide⟩, (by rintro ⟨a, ⟨l, h, _⟩, _⟩; cases h), by decide,
    by decide, by decide⟩

theorem witness_MotionAndLiftWritesTakeExpiries :
    Claims.Takes truck .a
      ∧ (let s := { ready with axles := ready.axles.set 9 (dual false true) }
     (1023 : Half).toNat < 1024 ∧ (∀ a : Fin 10, (512 : BitVec 10).getLsbD a.val = true ↔
       (1023 : Half).getLsbD a.val = true ∧ (s.axle a).present = true ∧ (s.axle a).liftCapable = true)
     ∧ (512 : BitVec 10) ≠ s.vehicle.lifted)
    ∧ (0 : BitVec 10) = ready.vehicle.lifted
    ∧ Claims.Due { truck with uptime := 18000 } (Pos.pairLow ⟨4, 0⟩) :=
  ⟨rfl, by decide, rfl, due_at_the_limit⟩

theorem witness_VehicleValuesAreJudged :
    Claims.Takes ready .a
      ∧ 1 < (2 : Half).toNat ∧ 3 < (4 : Half).toNat ∧ 1023 < (1024 : Half).toNat := by decide

theorem timer_due_at_the_timeout : Claims.TimerDue { learning with uptime := 1200 } :=
  ⟨rfl, _, rfl, by decide⟩

theorem timer_not_due_before : ¬ Claims.TimerDue { learning with uptime := 1199 } := by
  rintro ⟨_, l, h, hle⟩
  cases h
  exact absurd hle (by decide)

theorem witness_ConfigWriteTakesTheClampedValue :
    Claims.Takes State.reset .a ∧ Claims.Takes ready .a ∧ Claims.Takes learning .a
      ∧ State.reset.loading = true ∧ ready.loading = false ∧ 7 < (8 : Byte).toNat ∧ (7 : Byte).toNat ≤ 7
      ∧ ((0 : Byte).toNat = 0 ∧ (1 : Byte).toNat = 1) ∧ (6 : Byte).toNat = 6 ∧ (2 ≤ (2 : Byte).toNat ∧ (7 : Byte).toNat ≠ 6)
      ∧ Claims.TimerDue { learning with uptime := 1200 } ∧ ¬ Claims.TimerDue { learning with uptime := 1199 } :=
  ⟨rfl, rfl, rfl, rfl, rfl, by decide, by decide, by decide, by decide, by decide, timer_due_at_the_timeout, timer_not_due_before⟩

theorem truck_map : MapLaw truck where
  valid p id h := by
    have key := every_pos (P := fun p => (truck.slotId p).all (fun id => validId id && truck.validPos p) = true)
      (by decide) p
    simpa [h] using key
  unique p q id hp hq := by
    have key := every_pos (P := fun p => truck.slotId p = none ∨ truck.lookup ((truck.slotId p).getD 0) = some p) (by decide)
    have h1 := key p
    have h2 := key q
    simp only [hp, hq, Option.getD_some, reduceCtorEq, false_or] at h1 h2
    exact Option.some.inj (h1.symm.trans h2)

theorem witness_AssignAndRemoveEditOneSlot :
    Claims.Takes State.reset .a ∧ Claims.Takes truck .a
      ∧ MapLaw truck ∧ State.reset.loading = true ∧ truck.loading = false
      ∧ (¬ ∃ p : Pos, (10 : Byte).toNat = p.axle.val ∧ (0 : Byte).toNat = p.slot.val
          ∧ Claims.ValidSlot (truck.axle p.axle) p.slot)
      ∧ ((4 : Byte).toNat = (4 : Fin 10).val ∧ (3 : Byte).toNat = (3 : Fin 4).val ∧ Claims.ValidSlot (truck.axle 4) 3)
      ∧ (294 : Generation) ≠ truck.generation
      ∧ (Claims.Protected { truck with protect := some ⟨4, 4⟩ } 4 ∧ ¬ Claims.Protected truck 4)
      ∧ (Claims.InSession { truck with learn := coupled.learn } 6 ∧ ¬ Claims.InSession truck 4)
      ∧ (∃ p', p' ≠ (⟨4, 1⟩ : Pos) ∧ truck.slotId p' = some 0x1A2B3C4D)
      ∧ (¬ ∃ p', p' ≠ (⟨4, 0⟩ : Pos) ∧ truck.slotId p' = some 0x1A2B3C4D)
      ∧ truck.slotId ⟨4, 1⟩ = none ∧ truck.slotId ⟨4, 0⟩ = some 0x1A2B3C4D := by
  refine ⟨rfl, rfl, truck_map, rfl, rfl, ?_, ?_, by decide, ⟨⟨_, rfl, by decide, by decide⟩, ?_⟩, ⟨⟨_, rfl, by decide, by decide⟩, ?_⟩,
    ⟨⟨4, 0⟩, by decide, by decide⟩, ?_, by decide, by decide⟩
  · rintro ⟨p, h, _⟩
    exact every_pos (P := fun p => (10 : Byte).toNat ≠ p.axle.val) (by decide) p h
  · unfold Claims.ValidSlot
    decide
  · rintro ⟨r, h, _⟩
    cases h
  · rintro ⟨r, h, _⟩
    cases h
  · rintro ⟨p, hne, h⟩
    exact every_pos (P := fun p => p ≠ ⟨4, 0⟩ → truck.slotId p ≠ some 0x1A2B3C4D) (by decide) p hne h

theorem witness_SetAxleWritesOneRecordWhole :
    Claims.Takes State.reset .a ∧ Claims.Takes truck .a ∧ MapLaw truck ∧ RecordLaw truck ∧ (State.reset.loading = true ∧ truck.loading = false) ∧ 9 < (10 : Byte).toNat
      ∧ (¬ ∃ r, Claims.CodesName 2 0 0 0 0 0 r) ∧ Claims.CodesName 1 1 1 3 1 1 ⟨true, .trailer, .dual, 3, true, true⟩
      ∧ (4 : Byte).toNat = (4 : Fin 10).val ∧ (294 : Generation) ≠ truck.generation
      ∧ Claims.Protected { truck with protect := some ⟨4, 4⟩ } 4 ∧ Claims.InSession { truck with learn := coupled.learn } 6
      ∧ ((1 : BitVec 10).getLsbD (0 : Fin 10).val = true ∧ AxleRecord.default.present = false)
      ∧ (truck.vehicle.trailer = .absent ∧ AxleUnit.trailer ≠ (truck.axle 4).unit)
      ∧ ¬ Claims.ValidSlot ⟨true, .truck, .single, 0, false, false⟩ 1
      ∧ (let r : AxleRecord := ⟨true, .truck, .single, 1, false, false⟩
         Claims.ValidSlot r 0 ∧ r.unit = (truck.axle 4).unit ∧ r.profile ≠ (truck.axle 4).profile
         ∧ r.kind = .single ∧ ((truck.axle 4).present = true ∧ (truck.axle 4).kind = .dual)
         ∧ Claims.LiveAt truck ⟨4, 0⟩ 8151 ∧ (learning.axle 1).kind = .single ∧ (truck.wheel ⟨4, 1⟩).state = .empty)
      ∧ (coupled.setWheel ⟨6, 0⟩ { live 8800 with state := .detached }).axle 6 = ⟨true, .trailer, .single, 0, false, false⟩ := by
  refine ⟨rfl, rfl, truck_map, truck_records, ⟨rfl, rfl⟩, by decide, ?_, ?_, by decide, by decide, ⟨_, rfl, by decide, by decide⟩,
    ⟨_, rfl, by decide, by decide⟩, by decide, by decide, ?_, ?_, by decide⟩
  · rintro ⟨r, h, _⟩
    revert h
    cases r.present <;> decide
  · unfold Claims.CodesName
    decide
  · unfold Claims.ValidSlot
    decide
  · unfold Claims.ValidSlot Claims.LiveAt
    decide

theorem witness_MoveCarriesRecords :
    Claims.Takes State.reset .a ∧ Claims.Takes truck .a ∧ MapLaw truck ∧ (State.reset.loading = true ∧ truck.loading = false)
      ∧ (9 < (5 : Byte).toNat + (5 : Byte).toNat ∧ 3 < (2 : Byte).toNat + (2 : Byte).toNat ∧ 1 < (2 : Byte).toNat)
      ∧ ¬ (9 < (4 : Byte).toNat + (0 : Byte).toNat ∨ 3 < (0 : Byte).toNat + (1 : Byte).toNat ∨ 1 < (1 : Byte).toNat)
      ∧ (294 : Generation) ≠ truck.generation
      ∧ (∃ a : Fin 10, (4 ≤ a.val ∧ a.val ≤ 4 + 0) ∧ Claims.Protected { truck with protect := some ⟨4, 9⟩ } a.val)
      ∧ (∃ a : Fin 10, (6 ≤ a.val ∧ a.val ≤ 6 + 0) ∧ Claims.InSession coupled a.val)
      ∧ (Claims.InRectangle 4 0 0 1 ⟨4, 0⟩ ∧ truck.slotId ⟨4, 0⟩ = some 0x1A2B3C4D ∧ Claims.ValidSlot (truck.axle 4) 1
        ∧ ¬ Claims.ValidSlot (truck.axle 0) 1)
      ∧ (Claims.InRectangle 4 1 0 1 ⟨4, 2⟩ ∧ ¬ Claims.InRectangle 4 0 0 1 ⟨4, 2⟩ ∧ truck.slotId ⟨4, 1⟩ = none)
      ∧ truck.detachedSlot ⟨4, 1⟩ = false ∧ AlertLaw truck ∧ truck.active ⟨4, 2⟩ .lowWarn = true
      ∧ (truck.axle 4).kind = .dual := by
  refine ⟨rfl, rfl, truck_map, ⟨rfl, rfl⟩, by decide, by decide, by decide, ⟨4, by decide, _, rfl, by decide, by decide⟩,
    ⟨6, by decide, _, rfl, by decide, by decide⟩, ?_, ?_, by decide, ⟨by decide, by decide, by decide, by decide⟩, by decide,
    by decide⟩
  · unfold Claims.InRectangle Claims.ValidSlot
    decide
  · unfold Claims.InRectangle
    decide

theorem witness_MapProtectSetsOrClearsTheRange :
    Claims.Takes State.reset .a ∧ Claims.Takes ready .a ∧ Claims.Takes learning .a
      ∧ State.reset.loading = true ∧ ready.loading = false ∧ 1 < (2 : Byte).toNat
      ∧ ((1 : Byte).toNat = 1 ∧ 9 < (10 : Byte).toNat ∧ (2 : Byte).toNat < (3 : Byte).toNat)
      ∧ ¬ (1 < (1 : Byte).toNat ∨ ((1 : Byte).toNat = 1
          ∧ (9 < (0 : Byte).toNat ∨ 9 < (9 : Byte).toNat ∨ (9 : Byte).toNat < (0 : Byte).toNat)))
      ∧ ((1 : Generation) ≠ ready.generation ∧ (0 : Generation) = ready.generation) ∧ learning.learn.session.isSome = true
      ∧ ready.learn.session = none := by decide

theorem witness_StagingAndCommit :
    Claims.Takes State.reset .a ∧ Claims.Takes ready .a ∧ Claims.Takes stagedBad .b
      ∧ State.reset.loading = true ∧ ready.loading = false ∧ (3 < (4 : Byte).toNat ∧ 10 < (11 : Byte).toNat)
      ∧ ((3 : Byte).toNat = (3 : Fin 4).val ∧ (10 : Byte).toNat = (10 : Fin 11).val)
      ∧ (ready.port .a).staging = none ∧ (stagedBad.port .b).staging = some ⟨2, 10, Profile.default.set 5 100⟩
      ∧ (10 : Fin 11).val = (9 : Fin 11).val + 1 ∧ (Profile.default.set 5 100)[2] ≤ (Profile.default.set 5 100)[5]
      ∧ ¬ Profile.default[3] ≤ Profile.default[2] ∧ ¬ Profile.default[9] ≤ Profile.default[8]
      ∧ ¬ Profile.default[2] ≤ Profile.default[5] ∧ (0 : Fin 4).val = ((3 : Fin 4).val + 1) % 4 := by decide

theorem learning_positions : Claims.PositionsOf learning 1 1 [⟨1, 0⟩, ⟨1, 3⟩] :=
  ⟨every_pos (by unfold Claims.ValidSlot; decide), by decide⟩

theorem witness_LearnStartOpensASession :
    Claims.Takes State.reset .a ∧ Claims.Takes ready .a ∧ Claims.Takes learning .a ∧ Claims.Takes coupled .a
      ∧ State.reset.loading = true ∧ (ready.loading = false ∧ learning.learn.session.isSome = true)
      ∧ ready.learn.session = none ∧ (9 < (10 : Byte).toNat ∧ (1 : Byte).toNat < (2 : Byte).toNat)
      ∧ ((1 : Generation) ≠ ready.generation ∧ (0 : Generation) = ready.generation)
      ∧ (∀ a : Fin 10, ((1 : Byte).toNat ≤ a.val ∧ a.val ≤ (1 : Byte).toNat) → (ready.axle a).present = false)
      ∧ (∃ a : Fin 10, ((1 : Byte).toNat ≤ a.val ∧ a.val ≤ (1 : Byte).toNat)
          ∧ Claims.Protected { learning with protect := some ⟨1, 1⟩ } a.val)
      ∧ ((coupled.axle 6).present = true ∧ (coupled.axle 6).unit = .trailer)
      ∧ (∃ a : Fin 10, ((1 : Byte).toNat ≤ a.val ∧ a.val ≤ (1 : Byte).toNat) ∧ (learning.axle a).present = true)
      ∧ Claims.PositionsOf learning 1 1 [⟨1, 0⟩, ⟨1, 3⟩] :=
  ⟨rfl, rfl, rfl, rfl, rfl, by decide, rfl, by decide, by decide, by decide, ⟨1, by decide, _, rfl, by decide, by decide⟩, by decide, by decide,
    learning_positions⟩

/-! ### Lawful states other than the reset -/

/-- A state with no sensor, no alert and an empty wheel table is lawful when its other parts are. -/
theorem lawful_of_bare {s : State} (hw : s.wheels = Vector.replicate 40 .empty) (hs : s.slots = Vector.replicate 40 none)
    (ha : s.alerts = ⟨[], [], false⟩) (receive : ReceiveLaw s) (range : RangeLaw s) (lift : LiftLaw s)
    (loading : LoadingLaw s) (session : SessionLaw s) (permit : PermitLaw s) (current : PermitCurrent s)
    (store : StoreLaw s) : Lawful s := by
  have w : ∀ p, s.wheel p = .empty := fun p => by simp [State.wheel, hw]
  have i : ∀ p, s.slotId p = none := fun p => by simp [State.slotId, hs]
  have c : ∀ p k, s.active p k = false := fun p k => by
    simp only [State.active, w]
    cases k <;> rfl
  exact {
    receive := receive
    range := range
    lift := lift
    loading := loading
    map := ⟨fun p id h => by simp [i] at h, fun p q id h => by simp [i] at h⟩
    session := session
    record := ⟨fun p => by simp [w, i, WheelRecord.empty], fun p _ => w p⟩
    detached := ⟨fun p h => by simp [w, WheelRecord.empty] at h, fun p h => by simp [w, WheelRecord.empty] at h⟩
    pressure := ⟨fun p c h => by simp [w, WheelRecord.empty] at h, fun p t h => by simp [w, WheelRecord.empty] at h⟩
    stale := fun p => by simp [w, WheelRecord.empty]
    mirror := by constructor <;> intro p <;> simp [c, w, WheelRecord.empty]
    count := ⟨fun p => .inl (by simp [w, WheelRecord.empty]), fun p => by simp [w, WheelRecord.empty, Pending.clear],
      fun p => by simp [w, WheelRecord.empty]⟩
    pair := ⟨fun p h => by simp [c] at h, fun p h => by simp [c] at h, fun p => by simp [c]⟩
    alert := ⟨by simp [ha], by simp [ha], by simp [ha], by simp [ha]⟩
    permit := permit
    current := current
    store := store }

theorem lawful_learning : Lawful learning :=
  lawful_of_bare rfl rfl rfl
    ⟨by simp [learning, ready, State.reset, ReceiverLaw], by simp [learning, ready, State.reset, ReceiverLaw], by decide,
      by decide, by unfold RssiInRange; decide⟩
    ⟨by constructor <;> decide, by unfold ProfileInRange; decide, by decide, fun g h => (by cases h), fun g h => (by cases h),
      by decide, fun r h => (by cases h), fun v h => (by cases h)⟩
    ⟨by decide, fun h => absurd h (by decide)⟩
    ⟨by decide, fun h => absurd h (by decide), fun h => absurd h (by decide), fun h => absurd h (by decide),
      fun h => absurd h (by decide), fun h => absurd h (by decide), fun h => absurd h (by decide),
      fun h => absurd h (by decide), fun h => absurd h (by decide), fun h => absurd h (by decide),
      fun h => absurd h (by decide), fun h => absurd h (by decide)⟩
    ⟨fun l h => (by cases h; decide), fun l h => (by cases h; decide), fun l h => (by cases h; decide),
      fun l h => (by cases h; decide), fun l h e he id hid => (by
        cases h
        have key : e = (⟨1, 0⟩, some 7) := by simpa using he
        subst key
        cases hid
        decide),
      fun l h => (by cases h; decide), fun l h => (by cases h; decide), by decide⟩
    ⟨by decide, by decide, by decide⟩ (fun _ => by decide)
    ⟨by decide, by decide, fun g h => (by cases h), by decide⟩

theorem witness_LearnEntryIsStagedOrIgnored :
    let e := entry 9 .learn 300 70
    let l : Session := ⟨⟨1, 1⟩, [⟨1, 0⟩, ⟨1, 3⟩], 1, [(⟨1, 0⟩, some 7)], 0⟩
    learning.queue = e :: [] ∧ e.lost = false ∧ e.telegram.kind = .learn ∧ learning.learn.session = some l
      ∧ l.positions[l.cursor]? = some ⟨1, 3⟩
      ∧ (∃ r, exec .entryTaken { learning with learn := { learning.learn with session := none } } = .next r)
      ∧ Claims.Stageable learning l ⟨1, 3⟩ e ∧ l.cursor + 1 = l.positions.length ∧ 0 + 1 < l.positions.length
      ∧ ¬ Claims.Stageable learning l ⟨1, 3⟩ { e with rssi := -86 } ∧ Lawful learning := by
  refine ⟨rfl, rfl, rfl, rfl, rfl, ⟨_, rfl⟩, ⟨by decide, by decide, by decide, ?_⟩, rfl, by decide, ?_, lawful_learning⟩
  · intro p h
    have none : learning.lookup (entry 9 .learn 300 70).telegram.id = none := by decide
    exact absurd (h.symm.trans none) (by simp)
  · rintro ⟨_, h, _⟩
    exact absurd h (by decide)

theorem witness_SessionEndsWithoutAResult :
    Claims.Takes State.reset .a ∧ Claims.Takes ready .a ∧ Claims.Takes learning .a
      ∧ State.reset.loading = true ∧ (ready.loading = false ∧ ready.learn.session = none)
      ∧ learning.learn.session.isSome = true ∧ Claims.TimerDue { learning with uptime := 1200 }
      ∧ ¬ Claims.TimerDue { learning with uptime := 1199 } :=
  ⟨rfl, rfl, rfl, rfl, by decide, rfl, timer_due_at_the_timeout, timer_not_due_before⟩

theorem witness_LearnResultIsApplied :
    Claims.Takes State.reset .a ∧ Claims.Takes ready .a ∧ Claims.Takes learning .a
      ∧ (State.reset.loading = true ∧ ready.loading = false ∧ ready.learn.session = none)
      ∧ Lawful learning ∧ (∃ l p, learning.learn.session = some l ∧ l.positions[l.cursor]? = some p
        ∧ l.cursor + 1 = l.positions.length)
      ∧ ∃ l : Session, ({ learning with learn := ⟨some ⟨⟨1, 1⟩, [⟨1, 0⟩, ⟨1, 3⟩], 0, [], 0⟩, .none⟩ } : State).learn.session
        = some l ∧ l.cursor + 1 < l.positions.length :=
  ⟨rfl, rfl, rfl, by decide, lawful_learning, ⟨_, _, rfl, rfl, rfl⟩, ⟨_, rfl, by decide⟩⟩

theorem witness_CommitsAndWritesOfTheStore :
    Claims.Takes ready .a ∧ Claims.Takes (sagging 0) .a ∧ Claims.Takes State.reset .a
      ∧ (ready.store.state = .idle ∧ ready.supply.state = .normal) ∧ ((sagging 0).store.state = .idle
      ∧ (sagging 0).supply.state = .low) ∧ State.reset.store.state ≠ .idle
      ∧ (∃ i, ({ ready with store := ⟨.writing ready.workingImage, none, false, .none⟩ } : State).store.state = .writing i)
      ∧ ({ ready with store := ⟨.pending, none, false, .none⟩ } : State).store.state = .pending
      ∧ ∀ i, ready.store.state ≠ .writing i :=
  ⟨rfl, rfl, rfl, by decide, by decide, by decide, ⟨_, rfl⟩, rfl, fun i h => by cases h⟩

theorem witness_LoadCompletionTakesTheImage :
    ready.loading = false ∧ State.reset.loading = true ∧ State.reset.nonvolatile.validImage = none
      ∧ ({ State.reset with nonvolatile := .content ready.workingImage (checkValue ready.workingImage) } :
          State).nonvolatile.validImage = some ready.workingImage
      ∧ Claims.CodesInRange ⟨1, 1, 1, 3, 1, 1⟩ ∧ ¬ Claims.CodesInRange ⟨1, 1, 1, 4, 1, 1⟩ := by
  refine ⟨rfl, rfl, rfl, by simp [Nonvolatile.validImage], ?_, ?_⟩ <;> unfold Claims.CodesInRange <;> decide

/-- A lawful state with commands waiting, whose step takes the LEARN entry that completes the session: the premises of the
five laws that every step keeps. -/
theorem witness_StepKeeps :
    let s := { learning with pending := [.entryTaken, .uptimeTick] }
    Lawful s ∧ ∃ t, step s = .next t ∧ t.pending = [.uptimeTick] ∧ t.slotId ⟨1, 3⟩ = some 9 :=
  ⟨lawful_withPending lawful_learning _, _, rfl, by decide, by decide⟩

/-- The session of learning while a write runs at LOW supply, a command waiting. -/
def writingLow : State :=
  { learning with
    supply := ⟨.low, 0, some 152⟩
    store := ⟨.writing learning.workingImage, none, false, .none⟩
    pending := [.uptimeTick] }

theorem lawful_writingLow : Lawful writingLow where
  receive := { lawful_learning.receive with }
  range := { lawful_learning.range with sample := fun v h => by cases h; decide }
  lift := { lawful_learning.lift with loading := fun h => absurd h (by decide) }
  loading := by constructor <;> decide
  map := { lawful_learning.map with }
  session := { lawful_learning.session with loaded := fun _ => by decide }
  record := { lawful_learning.record with }
  detached := { lawful_learning.detached with }
  pressure := { lawful_learning.pressure with }
  stale := lawful_learning.stale
  mirror := { lawful_learning.mirror with }
  count := { lawful_learning.count with }
  pair := { lawful_learning.pair with }
  alert := { lawful_learning.alert with }
  permit := { lawful_learning.permit with }
  current := lawful_learning.current
  store := ⟨by decide, by decide, fun g h => (by cases h), by decide⟩

/-- The premises of the clause on writes of StepKeepsTheReceivePathLoadAndStore: LOW before and after, WRITING after. -/
theorem witness_NoWriteBeginsAtLowSupply :
    Lawful writingLow ∧ ∃ t i, step writingLow = .next t ∧ writingLow.supply.state = .low ∧ t.supply.state = .low
      ∧ t.store.state = .writing i :=
  ⟨lawful_writingLow, _, _, rfl, rfl, rfl, rfl⟩

end Sys2Proof.Tests
end

/-! ## What raisings and clearings keep of the alert list -/

namespace Sys2Proof
open Machine Safety

/-- The wheels and kinds that the alert list knows: the entries', then the overflow set's (R100). -/
def Machine.AlertBlock.members (b : AlertBlock) : List (Pos × Condition) := b.entries.map named ++ b.overflow

/-- What AlertLaw asks of a block, for the conditions that a predicate calls active. -/
structure Machine.AlertBlock.Orderly (b : AlertBlock) (act : Pos → Condition → Prop) : Prop where
  bounded : b.entries.length ≤ alertCapacity
  distinct : b.members.Nodup
  active : ∀ m ∈ b.members, act m.1 m.2
  marker : b.overflow ≠ [] → b.marker = true

theorem alertLaw_iff (s : State) : AlertLaw s ↔ s.alerts.Orderly fun p k => s.active p k = true :=
  ⟨fun h => ⟨h.bounded, h.distinct, h.active, h.marker⟩, fun h => ⟨h.bounded, h.distinct, h.active, h.marker⟩⟩

theorem named_names (e : AlertEntry) (p : Pos) (k : Condition) : e.names p k = (named e == (p, k)) := rfl

/-- The marker test moves no entry and no member (R106). -/
@[simp] theorem Machine.AlertBlock.entryLeft_entries (b : AlertBlock) : b.entryLeft.entries = b.entries := by
  unfold AlertBlock.entryLeft; split <;> rfl
@[simp] theorem Machine.AlertBlock.entryLeft_overflow (b : AlertBlock) : b.entryLeft.overflow = b.overflow := by
  unfold AlertBlock.entryLeft; split <;> rfl
theorem Machine.AlertBlock.entryLeft_marker (b : AlertBlock) (h : b.overflow ≠ []) : b.entryLeft.marker = b.marker := by
  unfold AlertBlock.entryLeft; split <;> simp_all

/-- A clearing takes its wheel and kind out of what the list knows, wherever it stands (R107). -/
theorem Machine.AlertBlock.clearing_members (b : AlertBlock) (p : Pos) (k : Condition) :
    (b.clearing p k).members = b.members.erase (p, k) := by
  have listed : (b.entries.any fun e => e.names p k) = true ↔ (p, k) ∈ b.entries.map named := by
    simp [named_names]
  unfold AlertBlock.clearing AlertBlock.members
  split
  · next h =>
    rw [List.erase_append_left _ (listed.1 h), List.erase_eq_eraseP', List.eraseP_map]
    simp [Function.comp_def, named_names]
  · next h =>
    rw [List.erase_append_right _ fun m => h (listed.2 m)]

theorem Machine.AlertBlock.clearing_length (b : AlertBlock) (p : Pos) (k : Condition) :
    (b.clearing p k).entries.length ≤ b.entries.length := by
  unfold AlertBlock.clearing
  split
  · simpa using List.length_eraseP_le
  · exact le_rfl

theorem Machine.AlertBlock.clearing_marker (b : AlertBlock) (p : Pos) (k : Condition) (h : (b.clearing p k).overflow ≠ []) :
    (b.clearing p k).marker = b.marker ∧ b.overflow ≠ [] := by
  revert h
  unfold AlertBlock.clearing
  split
  · rw [AlertBlock.entryLeft_overflow]
    exact fun h => ⟨AlertBlock.entryLeft_marker _ h, h⟩
  · exact fun h => ⟨rfl, fun e => h (by simp [e])⟩

/-- A clearing leaves the list orderly for the conditions without the one cleared. -/
theorem Machine.AlertBlock.Orderly.clearing {b : AlertBlock} {act : Pos → Condition → Prop} (h : b.Orderly act) (p : Pos)
    (k : Condition) : (b.clearing p k).Orderly fun q j => act q j ∧ ¬ (p = q ∧ k = j) where
  bounded := (b.clearing_length p k).trans h.bounded
  distinct := by rw [AlertBlock.clearing_members]; exact h.distinct.erase _
  active m hm := by
    rw [AlertBlock.clearing_members, h.distinct.mem_erase_iff] at hm
    exact ⟨h.active m hm.2, fun e => hm.1 (by rw [e.1, e.2])⟩
  marker hne := by
    obtain ⟨hm, ho⟩ := b.clearing_marker p k hne
    rw [hm]; exact h.marker ho

/-- A new entry at the tail of a list with room (R103). -/
theorem Machine.AlertBlock.Orderly.append {b : AlertBlock} {act : Pos → Condition → Prop} (h : b.Orderly act) (p : Pos)
    (k : Condition) (now : Uptime) (room : b.entries.length < alertCapacity) (fresh : ¬ act p k) :
    (b.append p k now).Orderly fun q j => act q j ∨ (p = q ∧ k = j) := by
  have perm : (b.append p k now).members.Perm ((p, k) :: b.members) := by
    simp only [AlertBlock.append, AlertBlock.members, List.map_append, List.append_assoc]
    exact List.perm_middle
  refine ⟨by simpa [AlertBlock.append] using room, ?_, fun m hm => ?_, h.marker⟩
  · rw [perm.nodup_iff, List.nodup_cons]
    exact ⟨fun hm => fresh (h.active _ hm), h.distinct⟩
  · rcases List.mem_cons.1 (perm.subset hm) with rfl | hm
    · exact .inr ⟨rfl, rfl⟩
    · exact .inl (h.active m hm)

/-- The eviction of an entry (R104) leaves the list orderly. -/
theorem Machine.AlertBlock.Orderly.evict {b : AlertBlock} {act : Pos → Condition → Prop} (h : b.Orderly act) :
    b.evict.Orderly act := by
  have sub : b.evict.members.Sublist b.members := by
    simp only [AlertBlock.evict, AlertBlock.members, AlertBlock.entryLeft_entries, AlertBlock.entryLeft_overflow]
    exact (List.eraseP_sublist.map _).append_right _
  refine ⟨?_, h.distinct.sublist sub, fun m hm => h.active m (sub.subset hm), fun hne => ?_⟩
  · simp only [AlertBlock.evict, AlertBlock.entryLeft_entries]
    exact List.length_eraseP_le.trans h.bounded
  · unfold AlertBlock.evict at hne ⊢
    rw [AlertBlock.entryLeft_overflow] at hne
    rw [AlertBlock.entryLeft_marker _ hne]; exact h.marker hne

theorem Machine.AlertBlock.evict_room {b : AlertBlock} (full : b.entries.length ≤ alertCapacity)
    (h : b.entries.any AlertEntry.evictable = true) : b.evict.entries.length < alertCapacity := by
  obtain ⟨e, he, hp⟩ := List.any_eq_true.1 h
  have shorter := List.length_eraseP_of_mem he hp
  have pos := List.length_pos_of_mem he
  simp only [AlertBlock.evict, AlertBlock.entryLeft_entries, shorter]
  omega

/-- A condition that finds no place enters the overflow set (R105). -/
theorem Machine.AlertBlock.Orderly.enterOverflow {b : AlertBlock} {act : Pos → Condition → Prop} (h : b.Orderly act) (p : Pos)
    (k : Condition) (fresh : ¬ act p k) : (b.enterOverflow p k).Orderly fun q j => act q j ∨ (p = q ∧ k = j) := by
  have unlisted : (p, k) ∉ b.members := fun hm => fresh (h.active _ hm)
  have out : (p, k) ∉ b.overflow := fun hm => unlisted (List.mem_append_right _ hm)
  have eq : (b.enterOverflow p k).members = b.members ++ [(p, k)] := by
    simp [AlertBlock.enterOverflow, AlertBlock.members, out]
  refine ⟨h.bounded, ?_, fun m hm => ?_, fun _ => rfl⟩
  · rw [eq, List.nodup_append]
    exact ⟨h.distinct, List.nodup_singleton _, fun a ha c hc e => unlisted (by simp_all)⟩
  · rw [eq, List.mem_append, List.mem_singleton] at hm
    rcases hm with hm | rfl
    · exact .inl (h.active m hm)
    · exact .inr ⟨rfl, rfl⟩

/-- A raising of an inactive condition leaves the list orderly for the conditions with the one raised (R103 to R105). -/
theorem Machine.AlertBlock.Orderly.raising {b : AlertBlock} {act : Pos → Condition → Prop} (h : b.Orderly act) (p : Pos)
    (k : Condition) (now : Uptime) (fresh : ¬ act p k) :
    (b.raising p k now).Orderly fun q j => act q j ∨ (p = q ∧ k = j) := by
  unfold AlertBlock.raising
  split
  · next room => exact h.append p k now room fresh
  · split
    · next ev => exact h.evict.append p k now (AlertBlock.evict_room h.bounded ev) fresh
    · exact h.enterOverflow p k fresh

theorem Machine.AlertBlock.Orderly.congr {b : AlertBlock} {act act' : Pos → Condition → Prop} (h : b.Orderly act)
    (eq : ∀ p k, act p k → act' p k) : b.Orderly act' :=
  ⟨h.bounded, h.distinct, fun m hm => eq _ _ (h.active m hm), h.marker⟩

/-- A change that leaves the list and loses no active condition keeps AlertLaw. -/
theorem alertLaw_of_same {s t : State} (h : AlertLaw s) (ha : t.alerts = s.alerts)
    (hc : ∀ p k, s.active p k = true → t.active p k = true) : AlertLaw t := by
  rw [alertLaw_iff] at h ⊢
  rw [ha]; exact h.congr hc

theorem Safety.AlertLaw.raiseCond {s : State} (h : AlertLaw s) (p : Pos) (k : Condition) : AlertLaw (s.raiseCond p k) := by
  by_cases on : s.active p k = true
  · exact alertLaw_of_same h (by simp [State.raiseCond_alerts, on]) fun q j hq => by
      rw [State.raiseCond_active]; split <;> simp_all
  · rw [alertLaw_iff, State.raiseCond_alerts, if_neg on]
    refine ((alertLaw_iff s).1 h |>.raising p k s.uptime on).congr fun q j hq => ?_
    rw [State.raiseCond_active]; split <;> simp_all

theorem Safety.AlertLaw.clearCond {s : State} (h : AlertLaw s) (p : Pos) (k : Condition) : AlertLaw (s.clearCond p k) := by
  by_cases on : s.active p k = true
  · rw [alertLaw_iff, State.clearCond_alerts, if_pos on]
    refine ((alertLaw_iff s).1 h |>.clearing p k).congr fun q j hq => ?_
    rw [State.clearCond_active, if_neg hq.2]; exact hq.1
  · exact alertLaw_of_same h (by simp [State.clearCond_alerts, on]) fun q j hq => by
      rw [State.clearCond_active]; split <;> simp_all

theorem Safety.AlertLaw.modWheel {s : State} (h : AlertLaw s) (p : Pos) {f : WheelRecord → WheelRecord}
    (same : (f (s.wheel p)).conditions = (s.wheel p).conditions) : AlertLaw (s.modWheel p f) :=
  alertLaw_of_same h rfl fun q k hq => by
    unfold State.active at hq ⊢
    rw [State.modWheel_wheel]
    split <;> simp_all

theorem Safety.AlertLaw.clearConds {s : State} (h : AlertLaw s) (p : Pos) (ks : List Condition) : AlertLaw (s.clearConds p ks) :=
  foldl_keeps AlertLaw _ (fun _ k h => h.clearCond p k) ks s h

theorem Safety.AlertLaw.clearOwn {s : State} (h : AlertLaw s) (p : Pos) (ks : List Condition) : AlertLaw (s.clearOwn p ks) :=
  h.clearConds p _

theorem Safety.AlertLaw.clearPair {s : State} (h : AlertLaw s) (p : Pos) : AlertLaw (s.clearPair p) := by
  unfold State.clearPair
  split
  · exact (h.clearCond _ _).clearCond _ _
  · exact h

theorem Safety.AlertLaw.raisePair {s : State} (h : AlertLaw s) (p : Pos) : AlertLaw (s.raisePair p) :=
  (h.raiseCond _ _).raiseCond _ _

theorem Safety.AlertLaw.clearRecords {s : State} (h : AlertLaw s) (ps : List Pos) : AlertLaw (s.clearRecords ps) :=
  State.atEach_keeps AlertLaw _ (fun _ p h => h.clearPair p) _ ps
    (State.atEach_keeps AlertLaw _ (fun _ p h => h.clearOwn p _) s ps h)

end Sys2Proof

/-! ## Bands, conditions and counts of one record -/

namespace Sys2Proof
open Machine Safety

/-! ### Conditions that mirror a band -/

theorem Machine.Band.condition_eq (b : Band) : b.condition = Claims.bandCondition b := by cases b <;> rfl
theorem Machine.TempBand.condition_eq (b : TempBand) : b.condition = Claims.tempCondition b := by cases b <;> rfl

/-- The pressure conditions of a set mirror a band (R87). -/
def Machine.Band.Mirrored (b : Band) (c : Conditions) : Prop := ∀ z k, z.condition = some k → (c.has k = true ↔ b = z)

/-- The temperature conditions of a set mirror a band (R88). -/
def Machine.TempBand.Mirrored (b : TempBand) (c : Conditions) : Prop :=
  ∀ z k, z.condition = some k → (c.has k = true ↔ b = z)

/-- A condition that mirrors a band. -/
def Machine.Condition.ofBand (k : Condition) : Prop := (∃ b : Band, b.condition = some k) ∨ ∃ b : TempBand, b.condition = some k

/-- An exchange of the old band's condition for the new band's keeps the mirror (R87). -/
theorem Machine.Band.Mirrored.exchange {b : Band} {c : Conditions} (h : b.Mirrored c) (z : Band) :
    z.Mirrored (Claims.exchange b.condition z.condition c) := by
  intro y k hk
  have hy := h y k hk
  cases b <;> cases z <;> cases y <;> cases hk <;> simp_all [Claims.exchange, Band.condition]

theorem Machine.TempBand.Mirrored.exchange {b : TempBand} {c : Conditions} (h : b.Mirrored c) (z : TempBand) :
    z.Mirrored (Claims.exchange b.condition z.condition c) := by
  intro y k hk
  have hy := h y k hk
  cases b <;> cases z <;> cases y <;> cases hk <;> simp_all [Claims.exchange, TempBand.condition]

/-- An exchange of conditions of one family leaves the other conditions. -/
theorem Claims.exchange_has (o n : Option Condition) (c : Conditions) (j : Condition) (ho : o ≠ some j) (hn : n ≠ some j) :
    (Claims.exchange o n c).has j = c.has j := by
  cases o <;> cases n <;> simp_all [Claims.exchange]

theorem Machine.Band.condition_ne_temp (b : Band) (z : TempBand) (k : Condition) (h : z.condition = some k) :
    b.condition ≠ some k := by
  cases b <;> cases z <;> cases h <;> decide

theorem Machine.TempBand.condition_ne_pressure (b : TempBand) (z : Band) (k : Condition) (h : z.condition = some k) :
    b.condition ≠ some k := by
  cases b <;> cases z <;> cases h <;> decide

/-- The bands taken in turn keep the mirror, and leave the temperature's. -/
theorem Machine.Band.Mirrored.bandMoves (zs : List Band) {b : Band} {c : Conditions} (h : b.Mirrored c) :
    (zs.getLast?.getD b).Mirrored (Claims.bandMoves b zs c) := by
  induction zs generalizing b c with
  | nil => exact h
  | cons z zs ih =>
    rw [List.getLast?_cons]
    simp only [Option.getD_some, Claims.bandMoves, ← Band.condition_eq]
    exact ih (h.exchange z)

theorem Claims.bandMoves_has (zs : List Band) (b : Band) (c : Conditions) (j : Condition)
    (hj : ∀ z : Band, z.condition ≠ some j) : (Claims.bandMoves b zs c).has j = c.has j := by
  induction zs generalizing b c with
  | nil => rfl
  | cons z zs ih =>
    simp only [Claims.bandMoves, ← Band.condition_eq]
    rw [ih, Claims.exchange_has _ _ _ _ (hj b) (hj z)]

/-! ### The pending state -/

/-- The pending state is one of R84's for a band: a floor asks for a move away from it. -/
def Machine.Pending.Fits (q : Pending) (b : Band) : Prop :=
  PendingLaw q ∧ ∀ z, q.floor = some z → z.raiseCandidate b = true

theorem Machine.Pending.clear_fits (b : Band) : Pending.clear.Fits b :=
  ⟨.inl rfl, fun z h => by cases h⟩

theorem Machine.Band.side_of_raiseCandidate {z b : Band} (h : z.raiseCandidate b = true) : ∃ side, z.side = some side := by
  cases z
  case ok => simp [Band.raiseCandidate] at h
  all_goals exact ⟨_, rfl⟩

/-- A count that confirmation by two has not ended is the first (R86). -/
theorem Machine.Pending.count1_first {q : Pending} (hq : PendingLaw q) {z : Band} {side : Side} (hz : z.side = some side)
    (short : (q.count1 z).count < 2) : q.count1 z = ⟨some side, 1, some z⟩ := by
  obtain rfl | ⟨f, side', _, rfl⟩ := hq
  · simp [Pending.count1, Pending.clear, hz]
  · unfold Pending.count1 at short ⊢
    split at short
    · simp at short
    · next h => rw [if_neg h, hz]

/-- Steps 4 and 5 of R85 leave a fitting pending state, with a confirmation number of R86 or none. -/
theorem raiseStep_fits {confirm : Option Nat} (hn : ∀ n, confirm = some n → n ≤ 2) {q : Pending} {b : Band}
    (hq : PendingLaw q) (z : Band) :
    (raiseStep confirm b q z).2.Fits ((raiseStep confirm b q z).1.getLast?.getD b) := by
  unfold raiseStep
  split
  · next cand =>
    split
    · exact Pending.clear_fits _
    · next n =>
      dsimp only
      split
      · exact Pending.clear_fits _
      · next short =>
        obtain ⟨side, hs⟩ := Band.side_of_raiseCandidate cand
        have two := hn n rfl
        rw [Pending.count1_first hq hs (by omega)]
        exact ⟨.inr ⟨z, side, hs, rfl⟩, fun y hy => by cases hy; exact cand⟩
  · exact Pending.clear_fits _

/-- The pressure band step leaves a pending state that fits the band it ends at (R84 to R86). -/
theorem bandStep_fits (l : Levels) {confirm : Option Nat} (hn : ∀ n, confirm = some n → n ≤ 2) {q : Pending} (b : Band)
    (hq : PendingLaw q) (c : Int) :
    (bandStep l confirm b q c).2.Fits ((bandStep l confirm b q c).1.getLast?.getD b) := by
  unfold bandStep
  dsimp only
  split
  · exact Pending.clear_fits _
  · split
    · exact Pending.clear_fits _
    · split
      · rw [List.getLast?_cons]
        exact raiseStep_fits hn (Pending.clear_fits b).1 _
      · exact raiseStep_fits hn hq _

/-- A re-evaluation leaves no pending state: a candidate is taken at once (R96). -/
theorem bandStep_none_pending (l : Levels) (b : Band) (q : Pending) (c : Int) : (bandStep l none b q c).2 = .clear := by
  have raise : ∀ b' q' z, (raiseStep none b' q' z).2 = .clear := fun b' q' z => by
    unfold raiseStep; split <;> rfl
  unfold bandStep
  dsimp only
  split
  · rfl
  · split
    · rfl
    · split <;> exact raise _ _ _

/-! ### The law of one record's numbers and bands -/

/-- What holds of a record at every stage of a reading: held values in their ranges, conditions mirroring the bands, counts
(R49, R55, R84, R87, R88, R90). -/
structure InBounds (r : WheelRecord) : Prop where
  cold : ∀ c, r.pCold = some c → 0 ≤ c ∧ c ≤ 18340
  held : ∀ t, r.heldTemp = some t → -50 ≤ t ∧ t ≤ 204
  pressure : r.band.Mirrored r.conditions
  temperature : r.tempBand.Mirrored r.conditions
  pending : r.pending.Fits r.band
  leak : r.leakCount ≤ 2

/-- A condition that mirrors no band may be written. -/
theorem InBounds.put {r : WheelRecord} (h : InBounds r) {k : Condition} (hk : ¬ k.ofBand) (on : Bool) :
    InBounds { r with conditions := r.conditions.put k on } :=
  { h with
    pressure := fun z j hj => by
      rw [Conditions.has_put, if_neg fun (e : k = j) => hk (.inl ⟨z, e ▸ hj⟩)]; exact h.pressure z j hj
    temperature := fun z j hj => by
      rw [Conditions.has_put, if_neg fun (e : k = j) => hk (.inr ⟨z, e ▸ hj⟩)]; exact h.temperature z j hj }

theorem not_ofBand {k : Condition}
    (h : k = .leak ∨ k = .imbalance ∨ k = .silent ∨ k = .sensorFault ∨ k = .batteryLow) : ¬ k.ofBand := by
  rintro (⟨b, hb⟩ | ⟨b, hb⟩)
  · obtain rfl | rfl | rfl | rfl | rfl := h <;> cases b <;> cases hb
  · obtain rfl | rfl | rfl | rfl | rfl := h <;> cases b <;> cases hb

/-- The empty record, and with it the fresh ones. -/
theorem InBounds.empty : InBounds .empty where
  cold c h := by cases h
  held t h := by cases h
  pressure z k h := by
    rw [show WheelRecord.empty.conditions = .none from rfl, Conditions.none_has]
    cases z <;> cases h <;> decide
  temperature z k h := by
    rw [show WheelRecord.empty.conditions = .none from rfl, Conditions.none_has]
    cases z <;> cases h <;> decide
  pending := Pending.clear_fits _
  leak := Nat.zero_le _

/-- A record whose bands and pending state are reset with no condition of a band. -/
theorem InBounds.calmed {r r' : WheelRecord} (h : InBounds r) (hc : r'.pCold = r.pCold) (ht : r'.heldTemp = r.heldTemp)
    (hb : r'.band = .ok) (hm : r'.tempBand = .ok) (hp : r'.pending = .clear) (hl : r'.leakCount = 0)
    (hk : ∀ k, k.ofBand → r'.conditions.has k = false) : InBounds r' where
  cold c := by rw [hc]; exact h.cold c
  held t := by rw [ht]; exact h.held t
  pressure z k hz := by
    rw [hk k (.inl ⟨z, hz⟩), hb]
    cases z <;> cases hz <;> decide
  temperature z k hz := by
    rw [hk k (.inr ⟨z, hz⟩), hm]
    cases z <;> cases hz <;> decide
  pending := by rw [hp]; exact Pending.clear_fits _
  leak := by rw [hl]; exact Nat.zero_le _

end Sys2Proof

/-! ## What a reading or a re-evaluation does to the wheel table -/

namespace Sys2Proof
open Machine Safety

/-! ### Bands at a position -/

theorem Machine.State.raiseOpt_wheel (s : State) (p q : Pos) (k : Option Condition) :
    (s.raiseOpt p k).wheel q
      = if p = q then { s.wheel p with conditions := Claims.exchange none k (s.wheel p).conditions } else s.wheel q := by
  cases k with
  | none => by_cases e : p = q <;> simp [State.raiseOpt, Claims.exchange, e]
  | some k => exact State.raiseCond_wheel s p q k

theorem Machine.State.clearOpt_wheel (s : State) (p q : Pos) (k : Option Condition) :
    (s.clearOpt p k).wheel q
      = if p = q then { s.wheel p with conditions := Claims.exchange k none (s.wheel p).conditions } else s.wheel q := by
  cases k with
  | none => by_cases e : p = q <;> simp [State.clearOpt, Claims.exchange, e]
  | some k => exact State.clearCond_wheel s p q k

/-- One change of the pressure band exchanges the conditions that mirror it (R87). -/
theorem Machine.State.setBand_wheel (s : State) (p q : Pos) (b : Band) :
    (s.setBand p b).wheel q
      = if p = q then { s.wheel p with
          band := b
          conditions := Claims.exchange (s.wheel p).band.condition b.condition (s.wheel p).conditions }
        else s.wheel q := by
  unfold State.setBand
  by_cases e : p = q
  · subst e
    simp only [State.raiseOpt_wheel, State.modWheel_wheel, State.clearOpt_wheel, if_true]
    rfl
  · simp [State.raiseOpt_wheel, State.clearOpt_wheel, e]

/-- The record after the pressure band step (R85 to R87). -/
def Machine.WheelRecord.pressed (r : WheelRecord) (l : Levels) (confirm : Option Nat) (cold : Int) : WheelRecord :=
  let out := bandStep l confirm r.band r.pending cold
  { r with
    band := out.1.getLast?.getD r.band
    pending := out.2
    conditions := Claims.bandMoves r.band out.1 r.conditions }

theorem Machine.State.setBands_wheel (zs : List Band) (s : State) (p q : Pos) :
    (zs.foldl (fun s b => s.setBand p b) s).wheel q
      = if p = q then { s.wheel p with
          band := zs.getLast?.getD (s.wheel p).band
          conditions := Claims.bandMoves (s.wheel p).band zs (s.wheel p).conditions }
        else s.wheel q := by
  induction zs generalizing s with
  | nil => by_cases e : p = q <;> simp [Claims.bandMoves, e]
  | cons z zs ih =>
    rw [List.foldl_cons, ih]
    by_cases e : p = q
    · subst e
      simp only [State.setBand_wheel, if_true, List.getLast?_cons, Option.getD_some, Claims.bandMoves, Band.condition_eq]
    · simp [State.setBand_wheel, e]

theorem Machine.State.judgePressure_wheel (s : State) (p q : Pos) (n : Option Nat) (c : Int) :
    (s.judgePressure p n c).wheel q
      = if p = q then (s.wheel p).pressed (s.levelsOf p.axle) n c else s.wheel q := by
  unfold State.judgePressure
  by_cases e : p = q
  · subst e
    simp only [State.modWheel_wheel, State.setBands_wheel, if_true]
    rfl
  · simp [State.setBands_wheel, e]

theorem InBounds.pressed {r : WheelRecord} (h : InBounds r) (l : Levels) {n : Option Nat} (hn : ∀ k, n = some k → k ≤ 2)
    (c : Int) : InBounds (r.pressed l n c) where
  cold := h.cold
  held := h.held
  pressure := h.pressure.bandMoves _
  temperature := fun z k hz => by
    rw [show (r.pressed l n c).conditions.has k = _ from
      Claims.bandMoves_has _ _ _ k fun b => Band.condition_ne_temp b z k hz]
    exact h.temperature z k hz
  pending := bandStep_fits l hn _ h.pending.1 _
  leak := h.leak

/-- The temperature band step exchanges the conditions that mirror the band (R88). -/
theorem InBounds.temperatureMoved {r : WheelRecord} (h : InBounds r) (m : TempBand) :
    InBounds { r with
      tempBand := m
      conditions := Claims.exchange r.tempBand.condition m.condition r.conditions } :=
  { h with
    pressure := fun z k hz => by
      rw [Claims.exchange_has _ _ _ _ (TempBand.condition_ne_pressure _ z k hz) (TempBand.condition_ne_pressure _ z k hz)]
      exact h.pressure z k hz
    temperature := h.temperature.exchange m }

/-! ### Changes that stay at one wheel -/

/-- What the stages of a reading and a re-evaluation are made of at a wheel: conditions other than IMBALANCE raised and
cleared, and fields written that are no condition and take no P_cold from a LIVE record. -/
inductive Machine.State.Stages (p : Pos) (s : State) : State → Prop
  | refl : Stages p s s
  | raise {t : State} (k : Condition) : k ≠ .imbalance → Stages p s t → Stages p s (t.raiseCond p k)
  | clear {t : State} (k : Condition) : k ≠ .imbalance → Stages p s t → Stages p s (t.clearCond p k)
  | write {t : State} (f : WheelRecord → WheelRecord) : (∀ r, (f r).conditions = r.conditions) →
      (∀ r, r.livePressure.isSome = true → (f r).livePressure.isSome = true) → Stages p s t → Stages p s (t.modWheel p f)

namespace Machine.State.Stages

theorem trans {p : Pos} {s t u : State} (h : Stages p s t) (g : Stages p t u) : Stages p s u := by
  induction g with
  | refl => exact h
  | raise k hk _ ih => exact .raise k hk ih
  | clear k hk _ ih => exact .clear k hk ih
  | write f hc hl _ ih => exact .write f hc hl ih

theorem rest {p : Pos} {s t : State} (h : Stages p s t) : t.rest = s.rest := by
  induction h with
  | refl => rfl
  | raise k hk _ ih => rw [State.raiseCond_rest, ih]
  | clear k hk _ ih => rw [State.clearCond_rest, ih]
  | write f hc hl _ ih => rw [State.modWheel_rest, ih]

theorem elsewhere {p q : Pos} {s t : State} (h : Stages p s t) (ne : p ≠ q) : t.wheel q = s.wheel q := by
  induction h with
  | refl => rfl
  | raise k hk _ ih => rw [State.raiseCond_wheel, if_neg ne, ih]
  | clear k hk _ ih => rw [State.clearCond_wheel, if_neg ne, ih]
  | write f hc hl _ ih => rw [State.modWheel_wheel, if_neg ne, ih]

theorem imbalance {p : Pos} {s t : State} (h : Stages p s t) (q : Pos) : t.active q .imbalance = s.active q .imbalance := by
  induction h with
  | refl => rfl
  | raise k hk _ ih => rw [State.raiseCond_active, if_neg fun e => hk e.2, ih]
  | clear k hk _ ih => rw [State.clearCond_active, if_neg fun e => hk e.2, ih]
  | write f hc hl _ ih =>
    rw [← ih]
    unfold State.active
    rw [State.modWheel_wheel]
    split
    · next e => rw [hc, e]
    · rfl

theorem livePressure {p : Pos} {s t : State} (h : Stages p s t) (q : Pos) (live : (s.wheel q).livePressure.isSome = true) :
    (t.wheel q).livePressure.isSome = true := by
  induction h with
  | refl => exact live
  | raise k hk _ ih => rw [State.raiseCond_wheel]; split <;> simp_all [WheelRecord.livePressure]
  | clear k hk _ ih => rw [State.clearCond_wheel]; split <;> simp_all [WheelRecord.livePressure]
  | write f hc hl _ ih =>
    rw [State.modWheel_wheel]
    split
    · next e => exact hl _ (e ▸ ih)
    · exact ih

theorem alertLaw {p : Pos} {s t : State} (h : Stages p s t) (g : AlertLaw s) : AlertLaw t := by
  induction h with
  | refl => exact g
  | raise k hk _ ih => exact ih.raiseCond p k
  | clear k hk _ ih => exact ih.clearCond p k
  | write f hc hl _ ih => exact ih.modWheel p (hc _)

theorem axle {p : Pos} {s t : State} (h : Stages p s t) (a : Fin 10) : t.axle a = s.axle a :=
  State.axle_of_rest h.rest a

theorem pairLaw {p : Pos} {s t : State} (h : Stages p s t) (g : PairLaw s) : PairLaw t where
  dual q hq := by rw [h.imbalance] at hq; rw [h.axle]; exact g.dual q hq
  live q hq := by rw [h.imbalance] at hq; exact h.livePressure q (g.live q hq)
  both q := by rw [h.imbalance, h.imbalance]; exact g.both q

end Machine.State.Stages

open Machine.State (Stages)

theorem Machine.State.raiseOpt_stages (s : State) (p : Pos) {k : Option Condition} (hk : k ≠ some .imbalance) :
    Stages p s (s.raiseOpt p k) := by
  cases k with
  | none => exact .refl
  | some k => exact .raise k (fun e => hk (by rw [e])) .refl

theorem Machine.State.clearOpt_stages (s : State) (p : Pos) {k : Option Condition} (hk : k ≠ some .imbalance) :
    Stages p s (s.clearOpt p k) := by
  cases k with
  | none => exact .refl
  | some k => exact .clear k (fun e => hk (by rw [e])) .refl

theorem Machine.Band.condition_ne_imbalance (b : Band) : b.condition ≠ some .imbalance := by cases b <;> decide
theorem Machine.TempBand.condition_ne_imbalance (b : TempBand) : b.condition ≠ some .imbalance := by cases b <;> decide

theorem Machine.State.setBand_stages (s : State) (p : Pos) (b : Band) : Stages p s (s.setBand p b) :=
  ((s.clearOpt_stages p (Band.condition_ne_imbalance _)).trans
    (.write (fun r => { r with band := b }) (fun _ => rfl) (fun _ h => h) .refl)).trans
    (State.raiseOpt_stages _ p (Band.condition_ne_imbalance _))

theorem Machine.State.judgePressure_stages (s : State) (p : Pos) (n : Option Nat) (c : Int) :
    Stages p s (s.judgePressure p n c) := by
  unfold State.judgePressure
  exact .write _ (fun _ => rfl) (fun _ h => h)
    (foldl_keeps (Stages p s) _ (fun t b ht => ht.trans (t.setBand_stages p b)) _ s .refl)

theorem Machine.State.judgeTemp_stages (s : State) (p : Pos) (tc : BitVec 8) : Stages p s (s.judgeTemp p tc) := by
  unfold State.judgeTemp
  split
  · exact .refl
  · dsimp only
    split
    · exact .refl
    · refine Stages.trans ?_ (State.raiseOpt_stages _ p (TempBand.condition_ne_imbalance _))
      exact .write _ (fun _ => rfl) (fun _ h => h) (s.clearOpt_stages p (TempBand.condition_ne_imbalance _))

theorem Machine.State.judgeLeak_stages (s : State) (p : Pos) (al : Bool) (l r : Int) : Stages p s (s.judgeLeak p al l r) := by
  simp only [State.judgeLeak]
  split
  · generalize (if al = true then 2 else min 2 ((s.wheel p).leakCount + 1)) = n
    have counted : Stages p s (s.modWheel p fun r => { r with leakCount := n }) :=
      .write _ (fun _ => rfl) (fun _ h => h) .refl
    split
    · exact .raise _ (by decide) counted
    · exact counted
  · split
    · exact .clear _ (by decide) (.write _ (fun _ => rfl) (fun _ h => h) .refl)
    · exact .refl

theorem Machine.State.leakStep_stages (s : State) (p : Pos) (al : Bool) (c : Int) (t : Uptime) :
    Stages p s (s.leakStep p al c t) := by
  unfold State.leakStep
  split
  · exact .write _ (fun _ => rfl) (fun _ h => h) .refl
  · dsimp only
    split
    · exact .refl
    · have judged := fun rate limit => Stages.trans
        (.write (fun r => { r with leakRate := some rate }) (fun _ => rfl) (fun _ h => h) .refl)
        (State.judgeLeak_stages (s.modWheel p fun r => { r with leakRate := some rate }) p al limit rate)
      split
      · exact .write _ (fun _ => rfl) (fun _ h => h) (judged _ _)
      · exact judged _ _

/-- The battery part of the first step of a reading (R81, R82). -/
theorem Machine.State.Stages.battery {p : Pos} {s t : State} (h : Stages p s t) (low : Bool) :
    Stages p s (if low then t.raiseCond p .batteryLow else t.clearCond p .batteryLow) := by
  cases low
  · exact .clear _ (by decide) h
  · exact .raise _ (by decide) h

/-- The sensor fault part of the first step of a reading (R81). -/
theorem Machine.State.Stages.usable {p : Pos} {s t : State} (h : Stages p s t) (unusable : Prop) [Decidable unusable] :
    Stages p s (if unusable then t
      else if t.active p .sensorFault then (t.clearCond p .sensorFault).modWheel p fun r => { r with faultCode := none }
      else t) := by
  split
  · exact h
  · split
    · exact .write _ (fun _ => rfl) (fun _ h => h) (.clear _ (by decide) h)
    · exact h

theorem Machine.State.readCodes_stages (s : State) (p : Pos) (t : Telegram) : Stages p s (s.readCodes p t) :=
  have codes : Stages p s (s.modWheel p fun r =>
      { r with pressureCode := some t.pressureCode, tempCode := some t.tempCode, batteryLow := t.batteryLow }) :=
    .write _ (fun _ => rfl) (fun _ h => h) .refl
  (codes.battery t.batteryLow).usable (t.pressureCode.toNat = 511 ∧ t.tempCode.toNat = 255)

theorem Machine.State.compensate_stages (s : State) (p : Pos) (t : Telegram) : Stages p s (s.compensate p t) :=
  .write _ (fun _ => rfl) (fun r h => by
    unfold WheelRecord.livePressure at h ⊢
    cases hs : r.state <;> simp_all) .refl

theorem Machine.State.acceptEntry_stages (s : State) (p : Pos) (e : QueueEntry) : Stages p s (s.acceptEntry p e) := by
  simp only [State.acceptEntry]
  have accepted : Stages p s (s.modWheel p fun r => r.accept e s.uptime) :=
    .write _ (fun r => by unfold WheelRecord.accept WheelRecord.acceptRssi; cases e.channel <;> rfl)
      (fun r h => by
        have cold : (r.accept e s.uptime).pCold = r.pCold := by
          unfold WheelRecord.accept WheelRecord.acceptRssi; cases e.channel <;> rfl
        have live : (r.accept e s.uptime).state = .live := rfl
        unfold WheelRecord.livePressure at h ⊢
        rw [live, cold]
        cases hs : r.state <;> cases hc : r.pCold <;> simp_all) .refl
  split
  · exact .clear _ (by decide) accepted
  · exact accepted

end Sys2Proof

/-! ## A record stays in bounds through a reading -/

namespace Sys2Proof
open Machine Safety
open Machine.State (Stages)

theorem InBounds.raiseCond {s : State} {p q : Pos} (h : InBounds (s.wheel q)) {k : Condition} (hk : ¬ k.ofBand) :
    InBounds ((s.raiseCond p k).wheel q) := by
  rw [State.raiseCond_wheel]
  split
  · next e => exact (e ▸ h).put hk true
  · exact h

theorem InBounds.clearCond {s : State} {p q : Pos} (h : InBounds (s.wheel q)) {k : Condition} (hk : ¬ k.ofBand) :
    InBounds ((s.clearCond p k).wheel q) := by
  rw [State.clearCond_wheel]
  split
  · next e => exact (e ▸ h).put hk false
  · exact h

theorem InBounds.modWheel {s : State} {p : Pos} {f : WheelRecord → WheelRecord} (h : InBounds (f (s.wheel p))) :
    InBounds ((s.modWheel p f).wheel p) := by
  rw [State.modWheel_wheel, if_pos rfl]; exact h

theorem InBounds.judgePressure {s : State} {p : Pos} (h : InBounds (s.wheel p)) {n : Option Nat}
    (hn : ∀ k, n = some k → k ≤ 2) (c : Int) : InBounds ((s.judgePressure p n c).wheel p) := by
  rw [State.judgePressure_wheel, if_pos rfl]; exact h.pressed _ hn c

theorem InBounds.judgeTemp {s : State} {p : Pos} (h : InBounds (s.wheel p)) (tc : BitVec 8) :
    InBounds ((s.judgeTemp p tc).wheel p) := by
  unfold State.judgeTemp
  split
  · exact h
  · dsimp only
    split
    · exact h
    · rw [State.raiseOpt_wheel, if_pos rfl, State.modWheel_wheel, if_pos rfl, State.clearOpt_wheel, if_pos rfl]
      exact h.temperatureMoved _

theorem InBounds.counted {r : WheelRecord} (h : InBounds r) {n : Nat} (hn : n ≤ 2) : InBounds { r with leakCount := n } :=
  { h with leak := hn }

theorem InBounds.judgeLeak {s : State} {p : Pos} (h : InBounds (s.wheel p)) (al : Bool) (l r : Int) :
    InBounds ((s.judgeLeak p al l r).wheel p) := by
  simp only [State.judgeLeak]
  split
  · have two : (if al = true then 2 else min 2 ((s.wheel p).leakCount + 1)) ≤ 2 := by split <;> omega
    generalize (if al = true then 2 else min 2 ((s.wheel p).leakCount + 1)) = n at two
    have counted : InBounds ((s.modWheel p fun r => { r with leakCount := n }).wheel p) := (h.counted two).modWheel
    split
    · exact counted.raiseCond (not_ofBand (by decide))
    · exact counted
  · split
    · exact InBounds.clearCond (h.counted (Nat.zero_le _)).modWheel (not_ofBand (by decide))
    · exact h

theorem InBounds.leakStep {s : State} {p : Pos} (h : InBounds (s.wheel p)) (al : Bool) (c : Int) (t : Uptime) :
    InBounds ((s.leakStep p al c t).wheel p) := by
  unfold State.leakStep
  split
  · exact InBounds.modWheel { h with }
  · dsimp only
    split
    · exact h
    · have judged := fun rate limit =>
        InBounds.judgeLeak (s := s.modWheel p fun r => { r with leakRate := some rate }) (p := p)
          (InBounds.modWheel { h with }) al limit rate
      split
      · exact InBounds.modWheel { judged _ _ with }
      · exact judged _ _

theorem InBounds.readCodes {s : State} {p : Pos} (h : InBounds (s.wheel p)) (t : Telegram) :
    InBounds ((s.readCodes p t).wheel p) := by
  have codes : InBounds ((s.modWheel p fun r =>
      { r with pressureCode := some t.pressureCode, tempCode := some t.tempCode, batteryLow := t.batteryLow }).wheel p) :=
    InBounds.modWheel { h with }
  have battery : ∀ {u : State} (low : Bool), InBounds (u.wheel p) →
      InBounds ((if low then u.raiseCond p .batteryLow else u.clearCond p .batteryLow).wheel p) := by
    intro u low hu
    cases low
    · exact hu.clearCond (not_ofBand (by decide))
    · exact hu.raiseCond (not_ofBand (by decide))
  have usable : ∀ {u : State} (unusable : Prop) [Decidable unusable], InBounds (u.wheel p) →
      InBounds ((if unusable then u
        else if u.active p .sensorFault then (u.clearCond p .sensorFault).modWheel p fun r => { r with faultCode := none }
        else u).wheel p) := by
    intro u unusable _ hu
    split
    · exact hu
    · split
      · exact InBounds.modWheel { hu.clearCond (p := p) (not_ofBand (k := .sensorFault) (by decide)) with }
      · exact hu
  exact usable (t.pressureCode.toNat = 511 ∧ t.tempCode.toNat = 255) (battery t.batteryLow codes)

/-! ### The ranges of P_cold and of the held temperature (R49, R55) -/

theorem gaugeOf_range (pc : BitVec 9) : 0 ≤ gaugeOf pc ∧ gaugeOf pc ≤ 12750 := by
  have := pc.isLt
  unfold gaugeOf
  split <;> omega

theorem measuredTemp_range {tc : BitVec 8} {t : Int} (h : measuredTemp tc = some t) : -50 ≤ t ∧ t ≤ 204 := by
  have := tc.isLt
  unfold measuredTemp at h
  split at h
  · cases h
  · cases h; omega

/-- P_cold is at most 18340 dkPa: 1375 kPa of gauge pressure and the highest ambient, from -50 to 40 degrees. -/
theorem coldPressure_range {g a u r : Int} (hg : 0 ≤ g ∧ g ≤ 12750) (ha : 500 ≤ a ∧ a ≤ 1100) (hu : -50 ≤ u ∧ u ≤ 204)
    (hr : -20 ≤ r ∧ r ≤ 40) : 0 ≤ coldPressure g a u r ∧ coldPressure g a u r ≤ 18340 := by
  obtain ⟨hg0, hg1⟩ := hg
  obtain ⟨ha0, ha1⟩ := ha
  obtain ⟨hu0, hu1⟩ := hu
  obtain ⟨hr0, hr1⟩ := hr
  have product : (g + a) * (r + 273) ≤ (g + a) * 313 := mul_le_mul_of_nonneg_left (by omega) (by omega)
  have nonneg : 0 ≤ (g + a) * (r + 273) := mul_nonneg (by omega) (by omega)
  have divisor : (36681 + 2 * a) * 223 ≤ (36681 + 2 * a) * (u + 273) := mul_le_mul_of_nonneg_left (by omega) (by omega)
  have bound : (2 * (g + a) * (r + 273) + (u + 273)) / (2 * (u + 273)) < 18341 + a := by
    apply Int.ediv_lt_of_lt_mul (by omega)
    nlinarith
  unfold coldPressure scaledAbsolute
  rw [Int.tdiv_eq_ediv_of_nonneg (by nlinarith)]
  omega

theorem tempUsed_range {tc : BitVec 8} {held : Option Int} {r : Int} (hh : ∀ t, held = some t → -50 ≤ t ∧ t ≤ 204)
    (hr : -20 ≤ r ∧ r ≤ 40) : -50 ≤ tempUsed tc held r ∧ tempUsed tc held r ≤ 204 := by
  unfold tempUsed
  split
  · next h => exact measuredTemp_range h
  · exact hh _ rfl
  · omega

theorem heldAfter_range {tc : BitVec 8} {held : Option Int} (hh : ∀ t, held = some t → -50 ≤ t ∧ t ≤ 204) :
    ∀ t, heldAfter tc held = some t → -50 ≤ t ∧ t ≤ 204 := by
  intro t h
  unfold heldAfter at h
  split at h
  · next hm => cases h; exact measuredTemp_range hm
  · exact hh t h

/-- The inputs of the compensation that are not the record's lie in their ranges (R145, R151). -/
def Machine.State.InputsInRange (s : State) : Prop :=
  (500 ≤ s.vehicle.ambient ∧ s.vehicle.ambient ≤ 1100) ∧ -20 ≤ s.config.referenceTemp ∧ s.config.referenceTemp ≤ 40

theorem Machine.State.InputsInRange.of_rest {s t : State} (h : s.InputsInRange) (hr : t.rest = s.rest) :
    t.InputsInRange := by
  have hv : t.vehicle = s.vehicle := (congrArg State.vehicle hr :)
  have hc : t.config = s.config := (congrArg State.config hr :)
  unfold State.InputsInRange
  rw [hv, hc]; exact h

theorem InBounds.compensate {s : State} {p : Pos} (h : InBounds (s.wheel p)) (hi : s.InputsInRange) (t : Telegram) :
    InBounds ((s.compensate p t).wheel p) :=
  InBounds.modWheel { h with
    cold := fun c hc => by
      cases hc
      exact coldPressure_range (gaugeOf_range _) hi.1 (tempUsed_range h.held hi.2) hi.2
    held := heldAfter_range h.held }

theorem InBounds.accept {r : WheelRecord} (h : InBounds r) (e : QueueEntry) (now : Uptime) : InBounds (r.accept e now) := by
  unfold WheelRecord.accept WheelRecord.acceptRssi
  cases e.channel <;> exact { h with }

theorem InBounds.acceptEntry {s : State} {p : Pos} (h : InBounds (s.wheel p)) (e : QueueEntry) :
    InBounds ((s.acceptEntry p e).wheel p) := by
  have accepted : InBounds ((s.modWheel p fun r => r.accept e s.uptime).wheel p) := (h.accept e s.uptime).modWheel
  simp only [State.acceptEntry]
  split
  · exact accepted.clearCond (not_ofBand (by decide))
  · exact accepted

/-- A record that has accepted an entry is LIVE and its P_cold is not stale. -/
theorem Machine.State.acceptEntry_live (s : State) (p : Pos) (e : QueueEntry) :
    ((s.acceptEntry p e).wheel p).state = .live ∧ ((s.acceptEntry p e).wheel p).stale = false := by
  have accepted : ((s.modWheel p fun r => r.accept e s.uptime).wheel p).state = .live
      ∧ ((s.modWheel p fun r => r.accept e s.uptime).wheel p).stale = false := by
    rw [State.modWheel_wheel, if_pos rfl]; exact ⟨rfl, rfl⟩
  simp only [State.acceptEntry]
  split
  · rw [State.clearCond_wheel, if_pos rfl]; exact accepted
  · exact accepted

end Sys2Proof

/-! ## The laws of the wheel table, together with the map and the alert list -/

namespace Sys2Proof
open Machine Safety
open Machine.State (Stages)

/-! ### Equal rests -/

theorem Machine.State.slotId_of_rest {s t : State} (h : t.rest = s.rest) (p : Pos) : t.slotId p = s.slotId p := by
  have e : t.slots = s.slots := (congrArg State.slots h :)
  simp [State.slotId, e]

theorem Machine.State.vehicle_of_rest {s t : State} (h : t.rest = s.rest) : t.vehicle = s.vehicle :=
  (congrArg State.vehicle h :)

theorem Machine.State.detachedSlot_of_rest {s t : State} (h : t.rest = s.rest) : t.detachedSlot = s.detachedSlot := by
  funext p
  simp [State.detachedSlot, State.axle_of_rest h, State.vehicle_of_rest h]

theorem Machine.State.uptime_of_rest {s t : State} (h : t.rest = s.rest) : t.uptime = s.uptime :=
  (congrArg State.uptime h :)

theorem mapLaw_of_slots {s t : State} (h : MapLaw s) (ha : t.axles = s.axles)
    (hs : ∀ p id, t.slotId p = some id → s.slotId p = some id) : MapLaw t where
  valid p id hp := by
    have := h.valid p id (hs p id hp)
    simpa [State.validPos, State.axle, ha] using this
  unique p q id hp hq := h.unique p q id (hs p id hp) (hs q id hq)

theorem mapLaw_of_rest {s t : State} (h : MapLaw s) (hr : t.rest = s.rest) : MapLaw t :=
  mapLaw_of_slots h (congrArg State.axles hr :) fun p id hp => by rwa [State.slotId_of_rest hr] at hp

/-! ### One record -/

/-- The laws of one record: its bounds (R49, R55, R84, R87, R88, R90), EMPTY exactly at an empty slot with the empty values,
DETACHED only where the slot is detached and without conditions (R73), the stale marker (R75). -/
structure SoundRecord (held off : Bool) (r : WheelRecord) : Prop where
  bounds : InBounds r
  empty : r.state = .empty ↔ held = false
  values : r.state = .empty → r = .empty
  detached : r.state = .detached → off = true
  quiet : r.state = .detached → r.conditions = .none
  stale : r.stale = true ↔ r.state ≠ .live ∧ r.pCold.isSome = true

/-- A LIVE record in bounds whose P_cold is not stale. -/
theorem SoundRecord.of_live {off : Bool} {r : WheelRecord} (hb : InBounds r) (hs : r.state = .live) (hf : r.stale = false) :
    SoundRecord true off r where
  bounds := hb
  empty := by simp [hs]
  values h := by simp [hs] at h
  detached h := by simp [hs] at h
  quiet h := by simp [hs] at h
  stale := by simp [hs, hf]

theorem SoundRecord.held_of_state {held off : Bool} {r : WheelRecord} (h : SoundRecord held off r) (hs : r.state ≠ .empty) :
    held = true := by
  cases held
  · exact absurd (h.empty.2 rfl) hs
  · rfl

theorem SoundRecord.raise {held off : Bool} {r : WheelRecord} (h : SoundRecord held off r) {k : Condition}
    (hk : ¬ k.ofBand) (he : r.state ≠ .empty) (hd : r.state ≠ .detached) :
    SoundRecord held off { r with conditions := r.conditions.put k true } :=
  { h with
    bounds := h.bounds.put hk true
    values := fun e => absurd e he
    quiet := fun e => absurd e hd }

theorem Machine.Conditions.none_put_false (k : Condition) : Conditions.none.put k false = .none :=
  Conditions.put_same (Conditions.none_has k)

theorem SoundRecord.clear {held off : Bool} {r : WheelRecord} (h : SoundRecord held off r) {k : Condition}
    (hk : ¬ k.ofBand) : SoundRecord held off { r with conditions := r.conditions.put k false } :=
  { h with
    bounds := h.bounds.put hk false
    values := fun e => by rw [h.values e]; simp [WheelRecord.empty, Conditions.none_put_false]
    quiet := fun e => by simp [h.quiet e, Conditions.none_put_false] }

/-- The detached slots may become more. -/
theorem SoundRecord.widen {held off off' : Bool} {r : WheelRecord} (h : SoundRecord held off r)
    (ho : r.state = .detached → off' = true) : SoundRecord held off' r :=
  { h with detached := ho }

theorem soundRecord_empty (off : Bool) : SoundRecord false off .empty where
  bounds := InBounds.empty
  empty := by simp [WheelRecord.empty]
  values _ := rfl
  detached h := by cases h
  quiet h := by cases h
  stale := by simp [WheelRecord.empty]

/-- A fresh start is sound where its state is R15's (R16, R73). -/
theorem soundRecord_fresh (off : Bool) (now : Uptime) : SoundRecord true off (.fresh (startState off) now) where
  bounds := { InBounds.empty with }
  empty := by cases off <;> simp [WheelRecord.fresh, startState]
  values h := by cases off <;> cases h
  detached h := by cases off
                   · cases h
                   · rfl
  quiet _ := rfl
  stale := by simp [WheelRecord.fresh, WheelRecord.empty]

/-- A detached record, its conditions cleared before (R19). -/
theorem SoundRecord.detach {held off : Bool} {r : WheelRecord} (h : SoundRecord held off r) (he : r.state ≠ .empty)
    {r' : WheelRecord} (hr : r' = { r with conditions := .none }) : SoundRecord held true r'.detach where
  bounds := by
    subst hr
    exact h.bounds.calmed rfl rfl rfl rfl rfl rfl fun k _ => Conditions.none_has k
  empty := by simp [WheelRecord.detach, h.held_of_state he]
  values e := by cases e
  detached _ := rfl
  quiet _ := by subst hr; rfl
  stale := by simp [WheelRecord.detach]

/-- An attached record (R19). -/
theorem SoundRecord.attach {held off off' : Bool} {r : WheelRecord} (h : SoundRecord held off r) (hd : r.state = .detached)
    (now : Uptime) : SoundRecord held off' (r.attach now) where
  bounds := { h.bounds with }
  empty := by simp [WheelRecord.attach, h.held_of_state (by rw [hd]; decide)]
  values e := by cases e
  detached e := by cases e
  quiet e := by cases e
  stale := by
    have := h.stale
    simpa [WheelRecord.attach, hd] using this

/-- A record that falls silent (R94). -/
theorem SoundRecord.silence {held off : Bool} {r : WheelRecord} (h : SoundRecord held off r) (he : r.state ≠ .empty) :
    SoundRecord held off { r with state := .silent, stale := r.pCold.isSome } where
  bounds := { h.bounds with }
  empty := by simp [h.held_of_state he]
  values e := by cases e
  detached e := by cases e
  quiet e := by cases e
  stale := by simp

/-! ### The wheel table -/

/-- Every record is sound, at slots that a predicate calls detached. -/
def Machine.State.SoundWith (s : State) (off : Pos → Bool) : Prop :=
  ∀ p, SoundRecord (s.slotId p).isSome (off p) (s.wheel p)

/-- The laws that tie wheel records, slot map and alert list; `off` says which slots are detached, which an event may
change before it changes the records. -/
structure WheelLaws (off : Pos → Bool) (s : State) : Prop where
  map : MapLaw s
  sound : s.SoundWith off
  pair : PairLaw s
  alert : AlertLaw s

/-- A slot that holds an ID is valid, so its axle is present. -/
theorem WheelLaws.present {off : Pos → Bool} {s : State} (h : WheelLaws off s) {p : Pos} (he : (s.wheel p).state ≠ .empty) :
    (s.axle p.axle).present = true := by
  obtain ⟨id, hid⟩ := Option.isSome_iff_exists.1 ((h.sound p).held_of_state he)
  have valid := (h.map.valid p id hid).2
  simp only [State.validPos, AxleRecord.validSlot, Bool.and_eq_true] at valid
  exact valid.1

theorem Machine.WheelRecord.state_of_livePressure {r : WheelRecord} (h : r.livePressure.isSome = true) : r.state = .live := by
  unfold WheelRecord.livePressure at h
  split at h
  · assumption
  · cases h

/-- Changes of single records that keep each record's laws, its conditions and its P_cold while LIVE. -/
theorem WheelLaws.of_records {off off' : Pos → Bool} {s t : State} (h : WheelLaws off s) (hr : t.rest = s.rest)
    (ha : t.alerts = s.alerts)
    (hs : ∀ p, SoundRecord (s.slotId p).isSome (off p) (s.wheel p) → SoundRecord (s.slotId p).isSome (off' p) (t.wheel p))
    (hc : ∀ p, (t.wheel p).conditions = (s.wheel p).conditions)
    (hl : ∀ p, (s.wheel p).livePressure.isSome = true → (t.wheel p).livePressure.isSome = true) : WheelLaws off' t where
  map := mapLaw_of_rest h.map hr
  sound p := by rw [State.slotId_of_rest hr]; exact hs p (h.sound p)
  pair := by
    have active : ∀ p k, t.active p k = s.active p k := fun p k => by simp [State.active, hc]
    refine ⟨fun p hp => ?_, fun p hp => ?_, fun p => ?_⟩
    · rw [active] at hp; rw [State.axle_of_rest hr]; exact h.pair.dual p hp
    · rw [active] at hp; exact hl p (h.pair.live p hp)
    · rw [active, active]; exact h.pair.both p
  alert := alertLaw_of_same h.alert ha fun p k hp => by simpa [State.active, hc] using hp

/-- Stages at a wheel whose record ends LIVE, in bounds and not stale. -/
theorem WheelLaws.stages {off : Pos → Bool} {s t : State} {p : Pos} (h : WheelLaws off s) (hst : Stages p s t)
    (held : (s.wheel p).state ≠ .empty) (hb : InBounds (t.wheel p)) (hs : (t.wheel p).state = .live)
    (hf : (t.wheel p).stale = false) : WheelLaws off t where
  map := mapLaw_of_rest h.map hst.rest
  sound q := by
    rw [State.slotId_of_rest hst.rest]
    by_cases e : p = q
    · subst e
      rw [(h.sound p).held_of_state held]
      exact .of_live hb hs hf
    · rw [hst.elsewhere e]; exact h.sound q
  pair := hst.pairLaw h.pair
  alert := hst.alertLaw h.alert

/-! ### Pairs -/

/-- What holds of a position holds of a member of its pair. -/
theorem Machine.Pos.pair_of {P : Pos → Prop} {p : Pos} (h : P p) : P p.pairLow ∨ P p.pairHigh :=
  (Pos.eq_pairLow_or_pairHigh p).imp (fun e => e.subst (motive := P) h) (fun e => e.subst (motive := P) h)

theorem Machine.Pos.pairLow_ne (p q : Pos) : p.pairLow ≠ q.pairHigh := by
  intro h
  have := congrArg (fun q => q.slot.val) h
  simp only [Pos.pairLow, Pos.pairHigh] at this
  omega

theorem Machine.Pos.pair_eq (p q : Pos) : p.pairLow = q.pairLow ↔ p.pairHigh = q.pairHigh := by
  simp only [Pos.pairLow, Pos.pairHigh, Pos.mk.injEq, Fin.mk.injEq]
  omega

theorem Machine.State.raisePair_active (s : State) (p q : Pos) (k : Condition) :
    (s.raisePair p).active q k = if k = .imbalance ∧ (q = p.pairLow ∨ q = p.pairHigh) then true else s.active q k := by
  unfold State.raisePair
  rw [State.raiseCond_active, State.raiseCond_active]
  by_cases e1 : p.pairHigh = q <;> by_cases e2 : p.pairLow = q <;> by_cases ek : Condition.imbalance = k <;>
    simp_all [eq_comm]

theorem Machine.State.clearPair_active (s : State) (p q : Pos) (k : Condition) :
    (s.clearPair p).active q k
      = if k = .imbalance ∧ (s.axle p.axle).kind = .dual ∧ (q = p.pairLow ∨ q = p.pairHigh) then false else s.active q k := by
  unfold State.active
  rw [State.clearPair_wheel]
  by_cases c : (s.axle p.axle).kind = .dual ∧ (q = p.pairLow ∨ q = p.pairHigh)
  · by_cases ek : k = .imbalance
    · simp [c, ek]
    · simp [c, ek, Ne.symm ek]
  · rw [if_neg c, if_neg fun h => c h.2]

theorem Machine.State.raisePair_wheel (s : State) (p q : Pos) :
    (s.raisePair p).wheel q
      = if q = p.pairLow ∨ q = p.pairHigh
        then { s.wheel q with conditions := (s.wheel q).conditions.put .imbalance true } else s.wheel q := by
  unfold State.raisePair
  rw [State.raiseCond_wheel]
  have ne := Pos.pairLow_ne_pairHigh p
  by_cases e1 : q = p.pairLow
  · subst e1
    rw [if_neg (Ne.symm ne), State.raiseCond_wheel]; simp
  · rw [State.raiseCond_wheel, State.raiseCond_wheel, if_neg ne, if_neg (Ne.symm e1)]
    by_cases e2 : q = p.pairHigh
    · subst e2; simp
    · simp [Ne.symm e2, e1, e2]

/-- IMBALANCE cleared on one pair, whose members alone may have stopped being LIVE with a P_cold (R20, R92). -/
theorem pairLaw_clearPair {s u : State} (h : PairLaw s) (p : Pos) (hr : u.rest = s.rest)
    (ha : ∀ q, u.active q .imbalance = s.active q .imbalance)
    (hl : ∀ q, q ≠ p.pairLow → q ≠ p.pairHigh → (s.wheel q).livePressure.isSome = true →
      (u.wheel q).livePressure.isSome = true) : PairLaw (u.clearPair p) := by
  have axle : ∀ a, (u.clearPair p).axle a = s.axle a := fun a => State.axle_of_rest ((State.clearPair_rest u p).trans hr) a
  have active : ∀ q, (u.clearPair p).active q .imbalance
      = (s.active q .imbalance && !decide (q = p.pairLow ∨ q = p.pairHigh)) := by
    intro q
    rw [State.clearPair_active, State.axle_of_rest hr, ha]
    by_cases c : q = p.pairLow ∨ q = p.pairHigh
    · cases hq : s.active q .imbalance
      · simp
      · have ax : q.axle = p.axle := by rcases c with rfl | rfl <;> rfl
        have dual := (h.dual q hq).2
        rw [ax] at dual
        simp [c, dual]
    · simp [c]
  refine ⟨fun q hq => ?_, fun q hq => ?_, fun q => ?_⟩
  · rw [active, Bool.and_eq_true] at hq
    rw [axle]; exact h.dual q hq.1
  · rw [active, Bool.and_eq_true] at hq
    obtain ⟨on, out⟩ := hq
    have outside : ¬ (q = p.pairLow ∨ q = p.pairHigh) := by simpa using out
    rw [State.clearPair_wheel, if_neg fun c => outside c.2]
    exact hl q (fun e => outside (.inl e)) (fun e => outside (.inr e)) (h.live q on)
  · rw [active, active, h.both q]
    have e1 := Pos.pair_eq q p
    have e2 := Pos.pairLow_ne q p
    have e3 : q.pairHigh ≠ p.pairLow := Ne.symm (Pos.pairLow_ne p q)
    by_cases e : q.pairLow = p.pairLow
    · simp [e, e1.1 e]
    · have e' : ¬ q.pairHigh = p.pairHigh := fun x => e (e1.2 x)
      simp [e, e', e2, e3]

theorem Safety.PairLaw.clearPair {s : State} (h : PairLaw s) (p : Pos) : PairLaw (s.clearPair p) :=
  pairLaw_clearPair h p rfl (fun _ => rfl) fun _ _ _ l => l

/-- IMBALANCE raised on a pair whose members are LIVE with a P_cold on a present DUAL axle (R91). -/
theorem Safety.PairLaw.raisePair {s : State} (h : PairLaw s) (p : Pos) (hp : (s.axle p.axle).present = true)
    (hd : (s.axle p.axle).kind = .dual) (hlow : (s.wheel p.pairLow).livePressure.isSome = true)
    (hhigh : (s.wheel p.pairHigh).livePressure.isSome = true) : PairLaw (s.raisePair p) := by
  have axle : ∀ a, (s.raisePair p).axle a = s.axle a := State.axle_of_rest (State.raisePair_rest s p)
  refine ⟨fun q hq => ?_, fun q hq => ?_, fun q => ?_⟩
  · rw [axle]
    rw [State.raisePair_active] at hq
    split at hq
    · next c =>
      have ax : q.axle = p.axle := by rcases c.2 with rfl | rfl <;> rfl
      rw [ax]; exact ⟨hp, hd⟩
    · exact h.dual q hq
  · rw [State.raisePair_active] at hq
    rw [State.raisePair_wheel]
    split
    · next c => rcases c with rfl | rfl <;> assumption
    · next c =>
      rw [if_neg fun x => c x.2] at hq
      exact h.live q hq
  · rw [State.raisePair_active, State.raisePair_active, h.both q]
    have e1 := Pos.pair_eq q p
    have e2 := Pos.pairLow_ne q p
    have e3 : q.pairHigh ≠ p.pairLow := Ne.symm (Pos.pairLow_ne p q)
    by_cases e : q.pairLow = p.pairLow
    · simp [e, e1.1 e]
    · have e' : ¬ q.pairHigh = p.pairHigh := fun x => e (e1.2 x)
      simp [e, e', e2, e3]

theorem Machine.State.SoundWith.clearPair {s : State} {off : Pos → Bool} (h : s.SoundWith off) (p : Pos) :
    (s.clearPair p).SoundWith off := by
  intro q
  rw [State.slotId_of_rest (State.clearPair_rest s p), State.clearPair_wheel]
  split
  · exact (h q).clear (not_ofBand (by decide))
  · exact h q

theorem WheelLaws.clearPair {off : Pos → Bool} {s : State} (h : WheelLaws off s) (p : Pos) : WheelLaws off (s.clearPair p) where
  map := mapLaw_of_rest h.map (State.clearPair_rest s p)
  sound := h.sound.clearPair p
  pair := h.pair.clearPair p
  alert := h.alert.clearPair p

theorem WheelLaws.raisePair {off : Pos → Bool} {s : State} (h : WheelLaws off s) (p : Pos)
    (hd : (s.axle p.axle).kind = .dual) (hlow : (s.wheel p.pairLow).livePressure.isSome = true)
    (hhigh : (s.wheel p.pairHigh).livePressure.isSome = true) : WheelLaws off (s.raisePair p) where
  map := mapLaw_of_rest h.map (State.raisePair_rest s p)
  sound q := by
    rw [State.slotId_of_rest (State.raisePair_rest s p), State.raisePair_wheel]
    split
    · next c =>
      have live : (s.wheel q).state = .live := by
        rcases c with rfl | rfl
        · exact WheelRecord.state_of_livePressure hlow
        · exact WheelRecord.state_of_livePressure hhigh
      exact (h.sound q).raise (not_ofBand (by decide)) (by simp [live]) (by simp [live])
    · exact h.sound q
  pair := by
    have live := WheelRecord.state_of_livePressure hlow
    exact h.pair.raisePair p (h.present (p := p.pairLow) (by simp [live])) hd hlow hhigh
  alert := h.alert.raisePair p

theorem WheelLaws.checkPair {off : Pos → Bool} {s : State} (h : WheelLaws off s) (p : Pos) : WheelLaws off (s.checkPair p) := by
  unfold State.checkPair
  split
  · next hd =>
    split
    · next x y hx hy =>
      dsimp only
      split
      · exact h.raisePair p hd (by simp [hx]) (by simp [hy])
      · split
        · exact h.clearPair p
        · exact h
    · exact h
  · exact h

/-! ### Re-evaluation, readings, silence -/

theorem WheelLaws.reevaluateAt {off : Pos → Bool} {s : State} (h : WheelLaws off s) (p : Pos) :
    WheelLaws off (s.reevaluateAt p) := by
  unfold State.reevaluateAt
  split
  · next c hc =>
    have live : (s.wheel p).state = .live := WheelRecord.state_of_livePressure (by simp [hc])
    have wheel : (s.judgePressure p none c).wheel p = (s.wheel p).pressed (s.levelsOf p.axle) none c := by
      rw [State.judgePressure_wheel, if_pos rfl]
    refine h.stages (State.judgePressure_stages s p none c) (by simp [live])
      ((h.sound p).bounds.judgePressure (by simp) c) ?_ ?_
    · rw [wheel]; exact live
    · rw [wheel]
      have := (h.sound p).stale
      simp only [live] at this
      simpa [WheelRecord.pressed] using this
  · exact h

theorem WheelLaws.reevaluateAxle {off : Pos → Bool} {s : State} (h : WheelLaws off s) (a : Fin 10) :
    WheelLaws off (s.reevaluateAxle a) :=
  ((State.atEach_keeps (WheelLaws off) _ (fun _ p h => h.reevaluateAt p) s _ h).checkPair _).checkPair _

theorem WheelLaws.targetChange {off : Pos → Bool} {s : State} (h : WheelLaws off s) (f : Fin 10 → Bool) :
    WheelLaws off (s.targetChange f) :=
  foldl_keeps (WheelLaws off) _ (fun _ a h => h.reevaluateAxle a) _ s h

theorem Machine.WheelRecord.state_of_accepts {r : WheelRecord} {e : QueueEntry} (h : r.accepts e = true) : r.state ≠ .empty := by
  intro hs
  simp [WheelRecord.accepts, hs] at h

theorem WheelLaws.acceptFault {off : Pos → Bool} {s : State} (h : WheelLaws off s) {p : Pos} {e : QueueEntry}
    (ha : (s.wheel p).accepts e = true) : WheelLaws off (s.acceptFault p e) := by
  have noted : Stages p s ((s.raiseCond p .sensorFault).modWheel p fun r =>
      { r with faultCode := faultCodeOf e.telegram.tempCode }) :=
    .write _ (fun _ => rfl) (fun _ h => h) (.raise _ (by decide) .refl)
  have bounds : InBounds (((s.raiseCond p .sensorFault).modWheel p fun r =>
      { r with faultCode := faultCodeOf e.telegram.tempCode }).wheel p) :=
    InBounds.modWheel { (h.sound p).bounds.raiseCond (p := p) (not_ofBand (k := .sensorFault) (by decide)) with }
  obtain ⟨live, current⟩ := State.acceptEntry_live ((s.raiseCond p .sensorFault).modWheel p fun r =>
      { r with faultCode := faultCodeOf e.telegram.tempCode }) p e
  exact h.stages (noted.trans (State.acceptEntry_stages _ p e)) (WheelRecord.state_of_accepts ha) (bounds.acceptEntry e) live
    current

theorem confirmation_le_two (k : TelegramKind) : ∀ n, some k.confirmation = some n → n ≤ 2 := by
  intro n h
  cases h
  cases k <;> decide

/-- The stages of a reading before the check of its pair (R81, steps 1 to 6). -/
def Machine.State.readingJudged (s : State) (p : Pos) (e : QueueEntry) : State :=
  (((((s.readCodes p e.telegram).compensate p e.telegram).judgePressure p (some e.telegram.kind.confirmation)
    (s.coldOf p e.telegram)).judgeTemp p e.telegram.tempCode).leakStep p (e.telegram.kind == .alert)
    (s.coldOf p e.telegram) e.arrival).acceptEntry p e

theorem Machine.State.acceptReading_eq (s : State) (p : Pos) (e : QueueEntry) :
    s.acceptReading p e = (s.readingJudged p e).checkPair p := rfl

theorem Machine.State.readingJudged_stages (s : State) (p : Pos) (e : QueueEntry) : Stages p s (s.readingJudged p e) :=
  (((((s.readCodes_stages p e.telegram).trans (State.compensate_stages _ p e.telegram)).trans
    (State.judgePressure_stages _ p _ _)).trans (State.judgeTemp_stages _ p _)).trans
    (State.leakStep_stages _ p _ _ _)).trans (State.acceptEntry_stages _ p e)

theorem WheelLaws.acceptReading {off : Pos → Bool} {s : State} (h : WheelLaws off s) (hi : s.InputsInRange) {p : Pos}
    {e : QueueEntry} (ha : (s.wheel p).accepts e = true) : WheelLaws off (s.acceptReading p e) := by
  rw [State.acceptReading_eq]
  have read : (s.readCodes p e.telegram).InputsInRange := hi.of_rest (State.readCodes_rest s p _)
  have bounds : InBounds ((s.readingJudged p e).wheel p) :=
    InBounds.acceptEntry (InBounds.leakStep (InBounds.judgeTemp (InBounds.judgePressure
      (InBounds.compensate ((h.sound p).bounds.readCodes e.telegram) read e.telegram)
      (confirmation_le_two e.telegram.kind) _) _) _ _ _) e
  obtain ⟨live, current⟩ := State.acceptEntry_live _ p e
  exact (h.stages (s.readingJudged_stages p e) (WheelRecord.state_of_accepts ha) bounds live current).checkPair p

/-- A record of which fields that no law reads are written. -/
theorem SoundRecord.recordRssi {held off : Bool} {r : WheelRecord} (h : SoundRecord held off r) (hs : r.state ≠ .empty)
    (ch : Channel) (v : Int) : SoundRecord held off (r.recordRssi ch v) := by
  cases ch <;> exact { h with bounds := { h.bounds with }, values := fun e => absurd e hs }

theorem WheelLaws.noteRssi {off : Pos → Bool} {s : State} (h : WheelLaws off s) (p : Pos) (e : QueueEntry) :
    WheelLaws off (s.noteRssi p e) := by
  unfold State.noteRssi
  split
  · exact h
  · next hs =>
    have fields : ∀ r : WheelRecord, (r.recordRssi e.channel e.rssi).conditions = r.conditions
        ∧ (r.recordRssi e.channel e.rssi).livePressure = r.livePressure := by
      intro r; cases e.channel <;> exact ⟨rfl, rfl⟩
    refine h.of_records rfl rfl (fun q hq => ?_) (fun q => ?_) (fun q hq => ?_) <;> rw [State.modWheel_wheel] <;> split
    · next eq => subst eq; exact hq.recordRssi hs _ _
    · exact hq
    · next eq => rw [(fields _).1, eq]
    · rfl
    · next eq => rw [(fields _).2, eq]; exact hq
    · exact hq

theorem WheelLaws.applyEntry {off : Pos → Bool} {s : State} (h : WheelLaws off s) (hi : s.InputsInRange) (p : Pos)
    (e : QueueEntry) : WheelLaws off (s.applyEntry p e) := by
  unfold State.applyEntry
  split
  · next ha =>
    split
    · exact h.acceptFault ha
    · exact h.acceptReading hi ha
  · exact h.noteRssi p e

theorem WheelLaws.readEntry {off : Pos → Bool} {s : State} (h : WheelLaws off s) (hi : s.InputsInRange) (e : QueueEntry) :
    WheelLaws off (s.readEntry e) := by
  unfold State.readEntry
  split
  · exact h.applyEntry hi _ e
  · exact h

@[simp] theorem Machine.State.tabulate_wheel (s : State) (f : Fin 40 → WheelRecord) (p : Pos) :
    State.wheel { s with wheels := tabulate f } p = f p.idx := by
  simp [State.wheel]

theorem WheelLaws.resetCounts {off : Pos → Bool} {s : State} (h : WheelLaws off s) : WheelLaws off s.resetCounts := by
  have wheel : ∀ p, s.resetCounts.wheel p = { s.wheel p with pending := .clear, leakCount := 0 } := fun p =>
    State.tabulate_wheel s _ p
  refine h.of_records rfl rfl (fun p hp => ?_) (fun p => by rw [wheel]) (fun p hp => by rw [wheel]; exact hp)
  rw [wheel]
  exact { hp with
    bounds := { hp.bounds with pending := Pending.clear_fits _, leak := Nat.zero_le _ }
    values := fun e => by rw [hp.values e]; rfl }

theorem WheelLaws.moveSilenceRefs {off : Pos → Bool} {s : State} (h : WheelLaws off s) : WheelLaws off s.moveSilenceRefs := by
  have wheel : ∀ p, s.moveSilenceRefs.wheel p
      = if (s.wheel p).state.expires then { s.wheel p with silenceRef := some s.uptime } else s.wheel p := fun p =>
    State.tabulate_wheel s _ p
  refine h.of_records rfl rfl (fun p hp => ?_) (fun p => ?_) (fun p hp => ?_) <;> rw [wheel] <;> split
  · next ex =>
    refine { hp with bounds := { hp.bounds with }, values := fun e => ?_ }
    have state : (s.wheel p).state = .empty := e
    simp [state, WheelState.expires] at ex
  · exact hp
  · rfl
  · rfl
  · exact hp
  · exact hp

theorem WheelLaws.expireAt {off : Pos → Bool} {s : State} (h : WheelLaws off s) {p : Pos}
    (he : (s.wheel p).state.expires = true) : WheelLaws off (s.expireAt p) := by
  have ne : (s.wheel p).state ≠ .empty := fun e => by simp [e, WheelState.expires] at he
  have rest : (((s.modWheel p fun r => { r with state := .silent, stale := r.pCold.isSome }).raiseCond p .silent)).rest
      = s.rest := by simp
  refine ⟨mapLaw_of_rest h.map (State.expireAt_rest s p), ?_, ?_, ?_⟩
  · refine State.SoundWith.clearPair (fun q => ?_) p
    rw [State.slotId_of_rest rest, State.raiseCond_wheel, State.modWheel_wheel, State.modWheel_wheel, if_pos rfl]
    split
    · next e =>
      subst e
      exact ((h.sound p).silence ne).raise (not_ofBand (by decide)) (by simp) (by simp)
    · exact h.sound q
  · refine pairLaw_clearPair h.pair p rest (fun q => ?_) (fun q h1 h2 hl => ?_)
    · rw [State.raiseCond_active, if_neg (by simp)]
      unfold State.active
      rw [State.modWheel_wheel]
      split
      · next e => rw [e]
      · rfl
    · have out : p ≠ q := by
        rintro rfl
        rcases Pos.eq_pairLow_or_pairHigh p with e | e
        · exact h1 e
        · exact h2 e
      rw [State.raiseCond_wheel, if_neg out, State.modWheel_wheel, if_neg out]
      exact hl
  · exact ((h.alert.modWheel p rfl).raiseCond p _).clearPair p

theorem WheelLaws.expireDue {off : Pos → Bool} {s : State} (h : WheelLaws off s) : WheelLaws off s.expireDue := by
  refine State.atEach_keeps (WheelLaws off) _ (fun t p ht => ?_) s _ h
  split
  · next due =>
    simp only [State.expiryDue, Bool.and_eq_true] at due
    exact ht.expireAt due.1.1
  · exact ht

end Sys2Proof

/-! ## The treatments of records under map and trailer changes -/

namespace Sys2Proof
open Machine Safety
open Machine.State (Stages)

/-! ### Records cleared, then rewritten -/

/-- Clearing several records leaves IMBALANCE where neither member of the pair is cleared (R20). -/
theorem Machine.State.clearRecords_imbalance {s : State} (h : PairLaw s) (ps : List Pos) (q : Pos) :
    (s.clearRecords ps).active q .imbalance
      = (s.active q .imbalance && !decide (q.pairLow ∈ ps ∨ q.pairHigh ∈ ps)) := by
  have self : q ∈ ps → q.pairLow ∈ ps ∨ q.pairHigh ∈ ps := Pos.pair_of
  unfold State.active
  rw [State.clearRecords_wheel]
  split
  · next m => simp [self m]
  · next m =>
    split
    · next c => simp [c.2]
    · next c =>
      cases hq : (s.wheel q).conditions.has .imbalance
      · rfl
      · have dual := (h.dual q hq).2
        have out : ¬ (q.pairLow ∈ ps ∨ q.pairHigh ∈ ps) := fun m => c ⟨dual, m⟩
        simp [out]

theorem Machine.Pos.pairLow_pairLow (p : Pos) : p.pairLow.pairLow = p.pairLow := by
  simp only [Pos.pairLow, Pos.mk.injEq, Fin.mk.injEq, true_and]; omega
theorem Machine.Pos.pairHigh_pairLow (p : Pos) : p.pairHigh.pairLow = p.pairLow := by
  simp only [Pos.pairLow, Pos.pairHigh, Pos.mk.injEq, Fin.mk.injEq, true_and]; omega
theorem Machine.Pos.pairLow_pairHigh (p : Pos) : p.pairLow.pairHigh = p.pairHigh := by
  simp only [Pos.pairLow, Pos.pairHigh, Pos.mk.injEq, Fin.mk.injEq, true_and]; omega
theorem Machine.Pos.pairHigh_pairHigh (p : Pos) : p.pairHigh.pairHigh = p.pairHigh := by
  simp only [Pos.pairHigh, Pos.mk.injEq, Fin.mk.injEq, true_and]; omega

/-- Records cleared with their pairs, and then written anew without IMBALANCE: what an event that empties, restarts or
detaches them has to show. -/
theorem WheelLaws.rewritten {off off' : Pos → Bool} {s t : State} (h : WheelLaws off s) (ps : List Pos) (map : MapLaw t)
    (axles : t.axles = s.axles) (alerts : t.alerts = (s.clearRecords ps).alerts)
    (out : ∀ q, q ∉ ps → t.wheel q = (s.clearRecords ps).wheel q ∧ t.slotId q = s.slotId q
      ∧ ((s.wheel q).state = .detached → off' q = true))
    (inn : ∀ q, q ∈ ps → SoundRecord (t.slotId q).isSome (off' q) (t.wheel q) ∧ t.active q .imbalance = false) :
    WheelLaws off' t := by
  have axle : ∀ a, t.axle a = s.axle a := fun a => by simp [State.axle, axles]
  have self : ∀ q, q ∈ ps → q.pairLow ∈ ps ∨ q.pairHigh ∈ ps := fun _ => Pos.pair_of
  have active : ∀ q, t.active q .imbalance = (s.active q .imbalance && !decide (q.pairLow ∈ ps ∨ q.pairHigh ∈ ps)) := by
    intro q
    by_cases m : q ∈ ps
    · rw [(inn q m).2]; simp [self q m]
    · rw [← State.clearRecords_imbalance h.pair]
      unfold State.active
      rw [(out q m).1]
  refine ⟨map, fun q => ?_, ⟨fun q hq => ?_, fun q hq => ?_, fun q => ?_⟩, ?_⟩
  · by_cases m : q ∈ ps
    · exact (inn q m).1
    · obtain ⟨wheel, slot, wide⟩ := out q m
      rw [wheel, slot, State.clearRecords_wheel, if_neg m]
      split
      · exact ((h.sound q).widen wide).clear (not_ofBand (by decide))
      · exact (h.sound q).widen wide
  · rw [active, Bool.and_eq_true] at hq
    rw [axle]; exact h.pair.dual q hq.1
  · rw [active, Bool.and_eq_true] at hq
    obtain ⟨on, free⟩ := hq
    have free : ¬ (q.pairLow ∈ ps ∨ q.pairHigh ∈ ps) := by simpa using free
    have m : q ∉ ps := fun m => free (self q m)
    rw [(out q m).1, State.clearRecords_wheel, if_neg m, if_neg fun c => free c.2]
    exact h.pair.live q on
  · rw [active, active, h.pair.both q, Pos.pairLow_pairLow, Pos.pairHigh_pairLow, Pos.pairLow_pairHigh,
      Pos.pairHigh_pairHigh]
  · refine alertLaw_of_same (h.alert.clearRecords ps) alerts fun q k hq => ?_
    by_cases m : q ∈ ps
    · unfold State.active at hq
      rw [State.clearRecords_wheel, if_pos m] at hq
      simp at hq
    · unfold State.active at hq ⊢
      rw [(out q m).1]; exact hq

/-! ### Emptying and starting (R16, R17) -/

@[simp] theorem Machine.State.blank_wheel (s : State) (p q : Pos) :
    (s.blank p).wheel q = if p = q then .empty else s.wheel q := by
  unfold State.blank
  rw [State.setSlot_wheel, State.setWheel_wheel]

@[simp] theorem Machine.State.blank_slotId (s : State) (p q : Pos) :
    (s.blank p).slotId q = if p = q then none else s.slotId q := by
  unfold State.blank
  rw [State.setSlot_slotId, State.setWheel_slotId]

theorem Machine.State.blankEach_wheel (s : State) (ps : List Pos) (q : Pos) :
    (s.atEach ps State.blank).wheel q = if q ∈ ps then .empty else s.wheel q := by
  induction ps generalizing s with
  | nil => rfl
  | cons p ps ih =>
    show (State.atEach (s.blank p) ps _).wheel q = _
    rw [ih, State.blank_wheel]
    by_cases e : p = q
    · subst e; simp
    · simp [e, Ne.symm e]

theorem Machine.State.blankEach_slotId (s : State) (ps : List Pos) (q : Pos) :
    (s.atEach ps State.blank).slotId q = if q ∈ ps then none else s.slotId q := by
  induction ps generalizing s with
  | nil => rfl
  | cons p ps ih =>
    show (State.atEach (s.blank p) ps _).slotId q = _
    rw [ih, State.blank_slotId]
    by_cases e : p = q
    · subst e; simp
    · simp [e, Ne.symm e]

/-- A state but for its slot map and what judging changes. -/
def Machine.State.mapless (s : State) : State := { s.rest with slots := State.reset.slots }

theorem Machine.State.mapless_of_rest {s t : State} (h : t.rest = s.rest) : t.mapless = s.mapless := by
  unfold State.mapless; rw [h]

@[simp] theorem Machine.State.setSlot_mapless (s : State) (p : Pos) (id : Option SensorId) :
    (s.setSlot p id).mapless = s.mapless := rfl

@[simp] theorem Machine.State.blank_mapless (s : State) (p : Pos) : (s.blank p).mapless = s.mapless := rfl

theorem Machine.State.blankEach_mapless (s : State) (ps : List Pos) : (s.atEach ps State.blank).mapless = s.mapless :=
  State.atEach_same State.mapless _ State.blank_mapless s ps

theorem Machine.State.emptyAll_mapless (s : State) (ps : List Pos) : (s.emptyAll ps).mapless = s.mapless :=
  (State.blankEach_mapless _ ps).trans (State.mapless_of_rest (State.clearRecords_rest s ps))

theorem Machine.State.emptyAt_eq (s : State) (p : Pos) : s.emptyAt p = s.emptyAll [p] := rfl

theorem Machine.State.emptyAt_mapless (s : State) (p : Pos) : (s.emptyAt p).mapless = s.mapless := s.emptyAll_mapless [p]

theorem Machine.State.freshAt_mapless (s : State) (p : Pos) (id : SensorId) : (s.freshAt p id).mapless = s.mapless := by
  unfold State.freshAt
  rw [State.setSlot_mapless, State.mapless_of_rest (State.setWheel_rest _ _ _),
    State.mapless_of_rest (State.clearRecord_rest s p)]

theorem Machine.State.freshAt_alerts (s : State) (p : Pos) (id : SensorId) :
    (s.freshAt p id).alerts = (s.clearRecords [p]).alerts := by
  unfold State.freshAt
  rw [State.setSlot_alerts, State.setWheel_alerts]; rfl

theorem Machine.State.axles_of_mapless {s t : State} (h : t.mapless = s.mapless) : t.axles = s.axles :=
  (congrArg State.axles h :)

theorem Machine.State.axle_of_mapless {s t : State} (h : t.mapless = s.mapless) (a : Fin 10) : t.axle a = s.axle a := by
  simp [State.axle, State.axles_of_mapless h]

theorem Machine.State.vehicle_of_mapless {s t : State} (h : t.mapless = s.mapless) : t.vehicle = s.vehicle :=
  (congrArg State.vehicle h :)

theorem Machine.State.detachedSlot_of_mapless {s t : State} (h : t.mapless = s.mapless) :
    t.detachedSlot = s.detachedSlot := by
  funext p
  simp [State.detachedSlot, State.axle_of_mapless h, State.vehicle_of_mapless h]

theorem Machine.State.validPos_of_mapless {s t : State} (h : t.mapless = s.mapless) (p : Pos) : t.validPos p = s.validPos p := by
  simp [State.validPos, State.axle_of_mapless h]

/-- Emptying several positions (R16, R24). -/
theorem Machine.State.emptyAll_wheel (s : State) (ps : List Pos) (q : Pos) :
    (s.emptyAll ps).wheel q = if q ∈ ps then .empty else (s.clearRecords ps).wheel q := State.blankEach_wheel _ ps q

theorem Machine.State.emptyAll_slotId (s : State) (ps : List Pos) (q : Pos) :
    (s.emptyAll ps).slotId q = if q ∈ ps then none else s.slotId q := by
  unfold State.emptyAll
  rw [State.blankEach_slotId, State.slotId_of_rest (State.clearRecords_rest s ps)]

theorem Machine.State.emptyAll_alerts (s : State) (ps : List Pos) : (s.emptyAll ps).alerts = (s.clearRecords ps).alerts :=
  State.atEach_same State.alerts State.blank (fun _ _ => rfl) _ ps

theorem Machine.State.emptyAll_permit (s : State) (ps : List Pos) : (s.emptyAll ps).permit = s.permit :=
  (State.atEach_same State.permit State.blank (fun _ _ => rfl) _ ps).trans (State.clearRecords_permit s ps)

theorem WheelLaws.emptyAll {off : Pos → Bool} {s : State} (h : WheelLaws off s) (ps : List Pos) :
    WheelLaws off (s.emptyAll ps) := by
  refine h.rewritten ps (mapLaw_of_slots h.map (State.axles_of_mapless (s.emptyAll_mapless ps)) fun q id hq => ?_)
    (State.axles_of_mapless (s.emptyAll_mapless ps)) (s.emptyAll_alerts ps) (fun q m => ?_) (fun q m => ?_)
  · rw [State.emptyAll_slotId] at hq
    split at hq
    · cases hq
    · exact hq
  · rw [State.emptyAll_wheel, State.emptyAll_slotId, if_neg m, if_neg m]
    exact ⟨rfl, rfl, (h.sound q).detached⟩
  · unfold State.active
    rw [State.emptyAll_wheel, State.emptyAll_slotId, if_pos m, if_pos m]
    exact ⟨soundRecord_empty _, rfl⟩

theorem WheelLaws.emptyAt {off : Pos → Bool} {s : State} (h : WheelLaws off s) (p : Pos) : WheelLaws off (s.emptyAt p) :=
  h.emptyAll [p]

theorem Machine.State.freshAt_wheel (s : State) (p q : Pos) (id : SensorId) :
    (s.freshAt p id).wheel q
      = if p = q then .fresh (startState (s.detachedSlot p)) s.uptime else (s.clearRecords [p]).wheel q := by
  unfold State.freshAt
  rw [State.setSlot_wheel, State.setWheel_wheel]
  rfl

theorem Machine.State.freshAt_slotId (s : State) (p q : Pos) (id : SensorId) :
    (s.freshAt p id).slotId q = if p = q then some id else s.slotId q := by
  unfold State.freshAt
  rw [State.setSlot_slotId, State.setWheel_slotId, State.slotId_of_rest (State.clearRecord_rest s p)]

/-- A fresh start for a valid ID, which no other slot holds, at a valid slot (R17). -/
theorem WheelLaws.freshAt {s : State} (h : WheelLaws s.detachedSlot s) {p : Pos} {id : SensorId} (hv : validId id = true)
    (hp : s.validPos p = true) (alone : ∀ q, s.slotId q = some id → q = p) :
    WheelLaws s.detachedSlot (s.freshAt p id) := by
  have mapless := s.freshAt_mapless p id
  refine h.rewritten [p] ⟨fun q i hq => ?_, fun q r i hq hr => ?_⟩ (State.axles_of_mapless mapless) (s.freshAt_alerts p id) (fun q m => ?_)
    (fun q m => ?_)
  · rw [State.validPos_of_mapless mapless]
    rw [State.freshAt_slotId] at hq
    split at hq
    · next e => cases hq; exact ⟨hv, e ▸ hp⟩
    · exact h.map.valid q i hq
  · rw [State.freshAt_slotId] at hq hr
    split at hq <;> split at hr
    · next e1 e2 => exact e1.symm.trans e2
    · next e1 e2 => cases hq; exact absurd (alone r hr).symm e2
    · next e1 e2 => cases hr; exact absurd (alone q hq).symm e1
    · exact h.map.unique q r i hq hr
  · have ne : p ≠ q := fun e => m (by simp [e])
    rw [State.freshAt_wheel, State.freshAt_slotId, if_neg ne, if_neg ne]
    exact ⟨rfl, rfl, (h.sound q).detached⟩
  · obtain rfl : q = p := by simpa using m
    unfold State.active
    rw [State.freshAt_wheel, State.freshAt_slotId, if_pos rfl, if_pos rfl]
    exact ⟨soundRecord_fresh _ _, rfl⟩

/-! ### Attaching and detaching (R19) -/

theorem Machine.State.attachAt_wheel (s : State) (p q : Pos) :
    (s.attachAt p).wheel q
      = if p = q ∧ (s.wheel p).state = .detached then (s.wheel p).attach s.uptime else s.wheel q := by
  unfold State.attachAt
  split
  · next hs => simp [hs]
  · next hs => rw [if_neg fun c => hs c.2]

theorem Machine.State.attachEach_wheel (s : State) (ps : List Pos) (q : Pos) :
    (s.atEach ps State.attachAt).wheel q
      = if q ∈ ps ∧ (s.wheel q).state = .detached then (s.wheel q).attach s.uptime else s.wheel q := by
  induction ps generalizing s with
  | nil => simp [State.atEach]
  | cons p ps ih =>
    show (State.atEach (s.attachAt p) ps _).wheel q = _
    rw [ih, State.attachAt_wheel, State.uptime_of_rest (State.attachAt_rest s p)]
    by_cases e : p = q
    · subst e
      by_cases d : (s.wheel p).state = .detached
      · simp [d, WheelRecord.attach]
      · simp [d]
    · simp [e, Ne.symm e]

theorem Machine.State.attachEach_alerts (s : State) (ps : List Pos) : (s.atEach ps State.attachAt).alerts = s.alerts :=
  State.atEach_same State.alerts _ (fun s p => by unfold State.attachAt; split <;> rfl) s ps

/-- Attaching every DETACHED record of a list; elsewhere the slots that stay detached must be called so. -/
theorem WheelLaws.attachEach {off off' : Pos → Bool} {s : State} (h : WheelLaws off s) (ps : List Pos)
    (wide : ∀ q, q ∉ ps → (s.wheel q).state = .detached → off' q = true) : WheelLaws off' (s.atEach ps State.attachAt) := by
  refine h.of_records (State.atEach_same State.rest _ State.attachAt_rest s ps) (s.attachEach_alerts ps)
    (fun q hq => ?_) (fun q => ?_) (fun q hl => ?_) <;> rw [State.attachEach_wheel] <;> split
  · next c => exact hq.attach c.2 _
  · next c => exact hq.widen fun d => wide q (fun m => c ⟨m, d⟩) d
  · rfl
  · rfl
  · next c => rw [WheelRecord.state_of_livePressure hl] at c; cases c.2
  · exact hl

/-- Detaching the records of a list, at slots that are now detached (R19). -/
theorem WheelLaws.detachAll {off off' : Pos → Bool} {s : State} (h : WheelLaws off s) (ps : List Pos)
    (wide : ∀ q, (s.wheel q).state = .detached → off' q = true) (gone : ∀ q, q ∈ ps → off' q = true) :
    WheelLaws off' (s.detachAll ps) := by
  have rest := s.detachAll_rest ps
  have wheel : ∀ q, (s.detachAll ps).wheel q
      = if q ∈ ps.filter (fun p => (s.wheel p).detaches) then WheelRecord.detach { s.wheel q with conditions := .none }
        else (s.clearRecords (ps.filter fun p => (s.wheel p).detaches)).wheel q := by
    intro q
    rw [State.detachAll_wheel, State.clearRecords_wheel]
    dsimp only
    split <;> rfl
  have alerts : (s.detachAll ps).alerts = (s.clearRecords (ps.filter fun p => (s.wheel p).detaches)).alerts :=
    State.atEach_same State.alerts (fun t p => t.modWheel p WheelRecord.detach) (fun _ _ => rfl) _ _
  refine h.rewritten (ps.filter fun p => (s.wheel p).detaches) (mapLaw_of_rest h.map rest) (congrArg State.axles rest :)
    alerts (fun q m => ?_) (fun q m => ?_)
  · rw [wheel, if_neg m]
    exact ⟨rfl, State.slotId_of_rest rest q, wide q⟩
  · obtain ⟨hq, hd⟩ := List.mem_filter.1 m
    have ne : (s.wheel q).state ≠ .empty := by
      intro e
      simp [WheelRecord.detaches, e] at hd
    unfold State.active
    rw [wheel, if_pos m, State.slotId_of_rest rest, gone q hq]
    exact ⟨(h.sound q).detach ne rfl, rfl⟩

end Sys2Proof

/-! ## Clearings in turn -/

namespace Sys2Proof
open Machine Safety

/-- A state reached by clearings alone. -/
inductive Machine.State.Clears (s : State) : State → Prop
  | refl : Clears s s
  | clear {t : State} (p : Pos) (k : Condition) : Clears s t → Clears s (t.clearCond p k)

namespace Machine.State.Clears

theorem trans {s t u : State} (h : Clears s t) (g : Clears t u) : Clears s u := by
  induction g with
  | refl => exact h
  | clear p k _ ih => exact .clear p k ih

theorem rest {s t : State} (h : Clears s t) : t.rest = s.rest := by
  induction h with
  | refl => rfl
  | clear p k _ ih => rw [State.clearCond_rest, ih]

theorem permit {s t : State} (h : Clears s t) : t.permit = s.permit := by
  induction h with
  | refl => rfl
  | clear p k _ ih => rw [State.clearCond_permit, ih]

theorem grown {s t : State} (h : Clears s t) : t.Grown s := by
  induction h with
  | refl => exact .refl s
  | clear p k _ ih => exact (State.clearCond_grown _ p k).trans ih

/-- Clearings change the conditions of a record and nothing else of it. -/
theorem wheel {s t : State} (h : Clears s t) (q : Pos) :
    t.wheel q = { s.wheel q with conditions := (t.wheel q).conditions } := by
  induction h with
  | refl => rfl
  | @clear u p k _ ih =>
    rw [State.clearCond_wheel]
    split
    · next e =>
      subst e
      exact congrArg (fun r : WheelRecord => { r with conditions := (u.wheel p).conditions.put k false }) ih
    · exact ih

theorem active_of {s t : State} (h : Clears s t) {q : Pos} {k : Condition} (on : t.active q k = true) :
    s.active q k = true := by
  induction h with
  | refl => exact on
  | clear p j _ ih =>
    rw [State.clearCond_active] at on
    split at on
    · cases on
    · exact ih on

theorem alertLaw {s t : State} (h : Clears s t) (g : AlertLaw s) : AlertLaw t := by
  induction h with
  | refl => exact g
  | clear p k _ ih => exact ih.clearCond p k

end Machine.State.Clears

open Machine.State (Clears)

theorem Machine.State.clearConds_clears (s : State) (p : Pos) (ks : List Condition) : Clears s (s.clearConds p ks) :=
  foldl_keeps (Clears s) _ (fun _ k h => .clear p k h) ks s .refl

theorem Machine.State.clearOwn_clears (s : State) (p : Pos) (ks : List Condition) : Clears s (s.clearOwn p ks) :=
  s.clearConds_clears p _

theorem Machine.State.clearPair_clears (s : State) (p : Pos) : Clears s (s.clearPair p) := by
  unfold State.clearPair
  split
  · exact .clear _ _ (.clear _ _ .refl)
  · exact .refl

theorem Machine.State.atEach_clears {f : State → Pos → State} (hf : ∀ t p, Clears t (f t p)) (s : State) (ps : List Pos) :
    Clears s (s.atEach ps f) :=
  State.atEach_keeps (Clears s) f (fun t p h => h.trans (hf t p)) s ps .refl

theorem Machine.State.clearRecords_clears (s : State) (ps : List Pos) : Clears s (s.clearRecords ps) :=
  (State.atEach_clears (fun t p => t.clearOwn_clears p _) s ps).trans (State.atEach_clears State.clearPair_clears _ ps)

/-! ### The alert list after clearings (R106, R107) -/

/-- Where no two entries name one wheel and kind, erasing the first that does is filtering out all that do. -/
theorem eraseP_names_eq_filter {l : List AlertEntry} (hl : (l.map named).Nodup) (p : Pos) (k : Condition) :
    (l.eraseP fun e => e.names p k) = l.filter fun e => named e != (p, k) := by
  induction l with
  | nil => rfl
  | cons x l ih =>
    rw [List.map_cons, List.nodup_cons] at hl
    by_cases hx : named x = (p, k)
    · have rest : ∀ y ∈ l, (named y != (p, k)) = true := fun y hy => by
        simp only [bne_iff_ne, ne_eq]
        exact fun ey => hl.1 (List.mem_map.2 ⟨y, hy, ey.trans hx.symm⟩)
      rw [List.eraseP_cons_of_pos (by simp [named_names, hx]), List.filter_cons_of_neg (by simp [hx]),
        List.filter_eq_self.2 rest]
    · rw [List.eraseP_cons_of_neg (by simp [named_names, hx]), List.filter_cons_of_pos (by simp [hx]), ih hl.2]

/-- In an orderly list a clearing leaves every entry and member but those of its wheel and kind, in order. -/
theorem Machine.AlertBlock.clearing_filter {b : AlertBlock} (hd : b.members.Nodup) (p : Pos) (k : Condition) :
    (b.clearing p k).entries = b.entries.filter (fun e => named e != (p, k))
      ∧ (b.clearing p k).overflow = b.overflow.filter (fun m => m != (p, k)) := by
  unfold AlertBlock.members at hd
  obtain ⟨he, ho, apart⟩ := List.nodup_append.1 hd
  unfold AlertBlock.clearing
  split
  · next hany =>
    obtain ⟨e, hm, hn⟩ := List.any_eq_true.1 hany
    have hn' : named e = (p, k) := by simpa [named_names] using hn
    have out : (p, k) ∉ b.overflow := fun h => apart _ (List.mem_map.2 ⟨e, hm, hn'⟩) _ h rfl
    rw [AlertBlock.entryLeft_entries, AlertBlock.entryLeft_overflow]
    refine ⟨eraseP_names_eq_filter he p k, ?_⟩
    · exact (List.filter_eq_self.2 fun m hm => by
        simp only [bne_iff_ne, ne_eq]; exact fun em => out (em ▸ hm)).symm
  · next hany =>
    refine ⟨(List.filter_eq_self.2 fun e hm => ?_).symm, ho.erase_eq_filter _⟩
    simp only [bne_iff_ne, ne_eq]
    exact fun en => hany (List.any_eq_true.2 ⟨e, hm, by simp [named_names, en]⟩)

/-- The marker after a clearing: it clears when an entry leaves while the overflow set is empty, else it stays (R106). -/
theorem Machine.AlertBlock.clearing_marker_cases (b : AlertBlock) (p : Pos) (k : Condition) :
    ((b.clearing p k).entries.length = b.entries.length ∧ (b.clearing p k).marker = b.marker)
      ∨ ((b.clearing p k).entries.length < b.entries.length
        ∧ (b.clearing p k).marker = (if b.overflow = [] then false else b.marker)) := by
  unfold AlertBlock.clearing
  split
  · next hany =>
    obtain ⟨e, hm, hn⟩ := List.any_eq_true.1 hany
    have pos := List.length_pos_of_mem hm
    right
    rw [AlertBlock.entryLeft_entries]
    refine ⟨?_, ?_⟩
    · rw [List.length_eraseP_of_mem hm hn]; omega
    · unfold AlertBlock.entryLeft
      by_cases ho : b.overflow = [] <;> simp [ho]
  · exact .inl ⟨rfl, rfl⟩

/-- What clearings leave of an orderly alert list: the entries and members whose condition stays active, in order. -/
structure Machine.State.ListFiltered (s t : State) : Prop where
  entries : t.alerts.entries = s.alerts.entries.filter fun e => t.active e.pos e.kind
  overflow : t.alerts.overflow = s.alerts.overflow.filter fun m => t.active m.1 m.2
  kept : t.alerts.entries.length = s.alerts.entries.length → t.alerts.marker = s.alerts.marker
  left : t.alerts.entries.length ≠ s.alerts.entries.length → s.alerts.overflow = [] → t.alerts.marker = false
  member : t.alerts.overflow ≠ [] → t.alerts.marker = s.alerts.marker

theorem Machine.State.Clears.listFiltered {s t : State} (h : Clears s t) (g : AlertLaw s) : s.ListFiltered t := by
  induction h with
  | refl =>
    have active : ∀ m ∈ s.alerts.entries.map named ++ s.alerts.overflow, s.active m.1 m.2 = true := g.active
    refine ⟨(List.filter_eq_self.2 fun e he => ?_).symm, (List.filter_eq_self.2 fun m hm => ?_).symm, fun _ => rfl,
      fun h => absurd rfl h, fun _ => rfl⟩
    · exact active _ (List.mem_append_left _ (List.mem_map.2 ⟨e, he, rfl⟩))
    · exact active _ (List.mem_append_right _ hm)
  | @clear u p k hu ih =>
    have law : AlertLaw u := hu.alertLaw g
    have alerts := State.clearCond_alerts u p k
    by_cases on : u.active p k = true
    · rw [if_pos on] at alerts
      obtain ⟨he, ho⟩ := AlertBlock.clearing_filter (b := u.alerts) law.distinct p k
      have shrink : u.alerts.entries.length ≤ s.alerts.entries.length := by
        rw [ih.entries]; exact List.length_filter_le _ _
      have still : ∀ q j, (u.clearCond p k).active q j = ((q, j) != (p, k) && u.active q j) := by
        intro q j
        rw [State.clearCond_active]
        by_cases e : (q, j) = (p, k)
        · cases e; simp
        · have e' : ¬ (p = q ∧ k = j) := fun c => e (by rw [c.1, c.2])
          simp [e, e']
      refine ⟨?_, ?_, ?_, ?_, ?_⟩
      · rw [alerts, he, ih.entries, List.filter_filter]
        exact List.filter_congr fun e _ => by rw [still]; rfl
      · rw [alerts, ho, ih.overflow, List.filter_filter]
        exact List.filter_congr fun m _ => (still m.1 m.2).symm
      · rw [alerts]
        intro len
        rcases AlertBlock.clearing_marker_cases u.alerts p k with ⟨same, mark⟩ | ⟨less, _⟩
        · rw [mark]; exact ih.kept (same ▸ len)
        · omega
      · rw [alerts]
        intro len empty
        have none : u.alerts.overflow = [] := by rw [ih.overflow, empty]; rfl
        rcases AlertBlock.clearing_marker_cases u.alerts p k with ⟨same, mark⟩ | ⟨_, mark⟩
        · rw [mark]; exact ih.left (same ▸ len) empty
        · rw [mark, if_pos none]
      · rw [alerts]
        intro ne
        have before : u.alerts.overflow ≠ [] := fun e => ne (by rw [ho, e]; rfl)
        rcases AlertBlock.clearing_marker_cases u.alerts p k with ⟨_, mark⟩ | ⟨_, mark⟩
        · rw [mark]; exact ih.member before
        · rw [mark, if_neg before]; exact ih.member before
    · rw [if_neg on] at alerts
      have still : ∀ q j, (u.clearCond p k).active q j = u.active q j := by
        intro q j
        rw [State.clearCond_active]
        split
        · next e => rw [← e.1, ← e.2]; simpa using on
        · rfl
      refine ⟨?_, ?_, ?_, ?_, ?_⟩ <;> rw [alerts]
      · simp only [still]; exact ih.entries
      · simp only [still]; exact ih.overflow
      · exact ih.kept
      · exact ih.left
      · exact ih.member

/-! ### Which conditions clearings leave -/

theorem Machine.State.clearOwn_active (s : State) (p q : Pos) (ks : List Condition) (k : Condition) :
    (s.clearOwn p ks).active q k
      = (s.active q k && !(decide (p = q) && decide (k ∈ ks) && !(k == .imbalance && (s.axle p.axle).kind == .dual))) := by
  unfold State.clearOwn State.active
  rw [State.clearConds_wheel]
  by_cases e : p = q
  · subst e
    rw [if_pos rfl, Conditions.foldl_put_has]
    simp [beq_eq_decide]
  · simp [e]

theorem Machine.State.clearOwnEach_active (s : State) (ps : List Pos) (ks : Pos → List Condition) (q : Pos) (k : Condition) :
    (s.atEach ps fun t p => t.clearOwn p (ks p)).active q k
      = (s.active q k && !(decide (q ∈ ps) && decide (k ∈ ks q) && !(k == .imbalance && (s.axle q.axle).kind == .dual))) := by
  induction ps generalizing s with
  | nil => simp [State.atEach]
  | cons p ps ih =>
    show (State.atEach (s.clearOwn p (ks p)) ps _).active q k = _
    rw [ih, State.axle_of_rest (State.clearOwn_rest s p _), State.clearOwn_active]
    by_cases e : p = q
    · subst e
      cases s.active p k <;> cases decide (k ∈ ks p) <;> cases (k == Condition.imbalance && (s.axle p.axle).kind == .dual) <;>
        simp
    · simp [e, Ne.symm e]

theorem Machine.State.clearPairEach_active (s : State) (ps : List Pos) (q : Pos) (k : Condition) :
    (s.atEach ps State.clearPair).active q k
      = (s.active q k && !(k == .imbalance && (s.axle q.axle).kind == .dual && decide (q.pairLow ∈ ps ∨ q.pairHigh ∈ ps))) := by
  unfold State.active
  rw [State.clearPairEach_wheel]
  by_cases c : (s.axle q.axle).kind = .dual ∧ (q.pairLow ∈ ps ∨ q.pairHigh ∈ ps)
  · rw [if_pos c, Conditions.has_put]
    by_cases e : k = .imbalance
    · subst e; simp [c.1, c.2]
    · simp [Ne.symm e, e]
  · rw [if_neg c]
    have c' : ((s.axle q.axle).kind == .dual && decide (q.pairLow ∈ ps ∨ q.pairHigh ∈ ps)) = false := by
      by_cases d : (s.axle q.axle).kind = .dual
      · have n : ¬ (q.pairLow ∈ ps ∨ q.pairHigh ∈ ps) := fun h => c ⟨d, h⟩
        simp [n]
      · simp [d]
    rw [Bool.and_assoc, c']; simp

end Sys2Proof

/-! ## Moves (R26, R27) -/

namespace Sys2Proof
open Machine Safety
open Machine.State (Clears)

/-! ### The rectangles -/

/-- Both rectangles of a move lie in the grid (R26). -/
structure Machine.Move.Fits (m : Move) : Prop where
  srcAxle : m.srcAxle + m.axles ≤ 9
  dstAxle : m.dstAxle + m.axles ≤ 9
  srcSlot : m.srcSlot + m.slots ≤ 3
  dstSlot : m.dstSlot + m.slots ≤ 3

theorem Machine.Move.fromHere_iff (m : Move) (p : Pos) :
    m.fromHere p = true ↔ m.srcAxle ≤ p.axle.val ∧ p.axle.val ≤ m.srcAxle + m.axles ∧ m.srcSlot ≤ p.slot.val
      ∧ p.slot.val ≤ m.srcSlot + m.slots := by simp [Move.fromHere]

theorem Machine.Move.toHere_iff (m : Move) (p : Pos) :
    m.toHere p = true ↔ m.dstAxle ≤ p.axle.val ∧ p.axle.val ≤ m.dstAxle + m.axles ∧ m.dstSlot ≤ p.slot.val
      ∧ p.slot.val ≤ m.dstSlot + m.slots := by simp [Move.toHere]

/-- The destination of a position of the source rectangle, by its numbers. -/
theorem Machine.Move.destination_val {m : Move} (hm : m.Fits) {p : Pos} (h : m.fromHere p = true) :
    (m.destination p).axle.val + m.srcAxle = p.axle.val + m.dstAxle
      ∧ (m.destination p).slot.val + m.srcSlot = p.slot.val + m.dstSlot := by
  obtain ⟨h1, h2, h3, h4⟩ := (m.fromHere_iff p).1 h
  obtain ⟨f1, f2, f3, f4⟩ := hm
  simp only [Move.destination]
  omega

theorem Machine.Move.source_val {m : Move} (hm : m.Fits) {d : Pos} (h : m.toHere d = true) :
    (m.source d).axle.val + m.dstAxle = d.axle.val + m.srcAxle
      ∧ (m.source d).slot.val + m.dstSlot = d.slot.val + m.srcSlot := by
  obtain ⟨h1, h2, h3, h4⟩ := (m.toHere_iff d).1 h
  obtain ⟨f1, f2, f3, f4⟩ := hm
  simp only [Move.source]
  omega

theorem Machine.Pos.ext_val {p q : Pos} (ha : p.axle.val = q.axle.val) (hs : p.slot.val = q.slot.val) : p = q := by
  obtain ⟨a, k⟩ := p
  obtain ⟨b, l⟩ := q
  rw [Pos.mk.injEq]
  exact ⟨Fin.ext ha, Fin.ext hs⟩

theorem Machine.Move.toHere_destination {m : Move} (hm : m.Fits) {p : Pos} (h : m.fromHere p = true) :
    m.toHere (m.destination p) = true := by
  have v := Move.destination_val hm h
  have b := (m.fromHere_iff p).1 h
  rw [Move.toHere_iff]; omega

theorem Machine.Move.fromHere_source {m : Move} (hm : m.Fits) {d : Pos} (h : m.toHere d = true) :
    m.fromHere (m.source d) = true := by
  have v := Move.source_val hm h
  have b := (m.toHere_iff d).1 h
  rw [Move.fromHere_iff]; omega

theorem Machine.Move.source_destination {m : Move} (hm : m.Fits) {p : Pos} (h : m.fromHere p = true) :
    m.source (m.destination p) = p := by
  have v := Move.destination_val hm h
  have w := Move.source_val hm (Move.toHere_destination hm h)
  exact Pos.ext_val (by omega) (by omega)

theorem Machine.Move.destination_source {m : Move} (hm : m.Fits) {d : Pos} (h : m.toHere d = true) :
    m.destination (m.source d) = d := by
  have v := Move.source_val hm h
  have w := Move.destination_val hm (Move.fromHere_source hm h)
  exact Pos.ext_val (by omega) (by omega)

theorem Machine.State.movesAway_fromHere {s : State} {m : Move} {p : Pos} (h : s.movesAway m p = true) :
    m.fromHere p = true := (Bool.and_eq_true _ _ ▸ h).1

theorem Machine.State.movesAway_held {s : State} {m : Move} {p : Pos} (h : s.movesAway m p = true) :
    (s.slotId p).isSome = true := by
  simp only [State.movesAway, Bool.and_eq_true] at h
  exact h.2

theorem Machine.State.arrivesAt_toHere {s : State} {m : Move} {d : Pos} (h : s.arrivesAt m d = true) :
    m.toHere d = true := (Bool.and_eq_true _ _ ▸ h).1

/-- A sensor arrives where a carried one goes. -/
theorem Machine.State.arrivesAt_iff {s : State} {m : Move} (hm : m.Fits) (d : Pos) :
    s.arrivesAt m d = true ↔ ∃ p, s.movesAway m p = true ∧ m.destination p = d := by
  simp only [State.arrivesAt, State.movesAway, Bool.and_eq_true]
  constructor
  · rintro ⟨ht, hs⟩
    exact ⟨m.source d, ⟨Move.fromHere_source hm ht, hs⟩, Move.destination_source hm ht⟩
  · rintro ⟨p, ⟨hf, hs⟩, rfl⟩
    exact ⟨Move.toHere_destination hm hf, by rwa [Move.source_destination hm hf]⟩

theorem Machine.State.movesAway_source {s : State} {m : Move} (hm : m.Fits) {d : Pos} (h : s.arrivesAt m d = true) :
    s.movesAway m (m.source d) = true := by
  obtain ⟨p, hp, rfl⟩ := (State.arrivesAt_iff hm d).1 h
  have hf := (State.movesAway_fromHere hp)
  rwa [Move.source_destination hm hf]

/-- A touched position is one of the source or one overrun. -/
theorem Machine.State.touchedBy_iff (s : State) (m : Move) (p : Pos) :
    s.touchedBy m p = (m.fromHere p || s.overrun m p) := by
  simp only [State.touchedBy, State.overrun, State.arrivesAt]
  cases m.fromHere p <;> cases m.toHere p <;> cases (s.slotId (m.source p)).isSome <;> cases m.clears <;> rfl

/-! ### The clearings of a move -/

theorem Machine.State.moveClearings_clears (s : State) (m : Move) : Clears s (s.moveClearings m) :=
  (((State.atEach_clears (fun t p => t.clearOwn_clears p _) s _).trans
    (State.atEach_clears (fun t p => t.clearOwn_clears p _) _ _)).trans
    (State.atEach_clears (fun t p => t.clearOwn_clears p _) _ _)).trans (State.atEach_clears State.clearPair_clears _ _)

theorem mem_carriedClears (off : Bool) (k : Condition) :
    k ∈ carriedClears off ↔ off = true ∨ (k ≠ .sensorFault ∧ k ≠ .batteryLow) := by
  cases off <;> cases k <;> decide

/-- A carried record keeps SENSOR_FAULT and BATTERY_LOW unless its destination is detached (R18); IMBALANCE of a DUAL axle is
left to the pair. -/
theorem carriedClears_table (k : Condition) (on off dual : Bool) :
    (on && !(decide (off = true ∨ (k ≠ .sensorFault ∧ k ≠ .batteryLow)) && !(k == .imbalance && dual))
      && !(k == .imbalance && dual)) = (on && (!off && (k == .sensorFault || k == .batteryLow))) := by
  revert on off dual
  cases k <;> decide

/-- The conditions that a move leaves on a wheel: of a carried record SENSOR_FAULT and BATTERY_LOW unless its destination is
detached, of any other touched record none, of an untouched one all but IMBALANCE of a touched pair (R18, R20, R27). -/
theorem Machine.State.moveClearings_active (s : State) (m : Move) (q : Pos) (k : Condition) :
    (s.moveClearings m).active q k = (s.active q k
      && if s.touchedBy m q
        then s.movesAway m q && !s.detachedSlot (m.destination q) && (k == .sensorFault || k == .batteryLow)
        else !(k == .imbalance && (s.axle q.axle).kind == .dual
          && decide (s.touchedBy m q.pairLow = true ∨ s.touchedBy m q.pairHigh = true))) := by
  have rest1 : ∀ (u : State) ps (ks : Pos → List Condition), (u.atEach ps fun t p => t.clearOwn p (ks p)).rest = u.rest :=
    fun u ps ks => State.atEach_same State.rest _ (fun t p => State.clearOwn_rest t p _) u ps
  unfold State.moveClearings
  dsimp only
  rw [State.clearPairEach_active, State.clearOwnEach_active _ _ (fun _ => Condition.all),
    State.clearOwnEach_active _ _ fun p => carriedClears (s.detachedSlot (m.destination p)),
    State.clearOwnEach_active _ _ (fun _ => Condition.all)]
  simp only [State.axle_of_rest (rest1 _ _ _), List.mem_filter, mem_allPos, true_and, Conditions.mem_all, decide_true,
    Bool.and_true, mem_carriedClears, Bool.decide_eq_true]
  have pair : s.touchedBy m q = true → (s.touchedBy m q.pairLow = true ∨ s.touchedBy m q.pairHigh = true) := Pos.pair_of (P := fun p => s.touchedBy m p = true)
  rw [State.touchedBy_iff s m q] at pair ⊢
  by_cases t : (m.fromHere q || s.overrun m q) = true
  · have pairCleared := pair t
    rw [if_pos t]
    simp only [pairCleared, decide_true, Bool.and_true]
    by_cases mv : s.movesAway m q = true
    · have fromHere : m.fromHere q = true := State.movesAway_fromHere mv
      have kept : s.overrun m q = false := by simp [State.overrun, fromHere]
      simp only [mv, fromHere, kept, Bool.not_true, Bool.and_false, Bool.false_and, Bool.not_false, Bool.and_true,
        Bool.true_and]
      exact carriedClears_table _ _ _ _
    · have lost : m.fromHere q = true ∨ s.overrun m q = true := by simpa using t
      simp only [mv, Bool.false_and, Bool.and_false]
      generalize (k == Condition.imbalance && (s.axle q.axle).kind == AxleKind.dual) = both
      rcases lost with h | h <;> cases both <;> simp [h]
  · have untouched : m.fromHere q = false ∧ s.overrun m q = false := by simpa using t
    rw [if_neg t]
    simp [untouched.1, untouched.2, State.movesAway]

end Sys2Proof

/-! ## The state after a move -/

namespace Sys2Proof
open Machine Safety
open Machine.State (Clears)

/-- The clearings, the re-addressing and the placing of a move, before R14's own changes (R27). -/
def Machine.State.moved (s : State) (m : Move) : State := ((s.moveClearings m).moveAlerts m).movePlaces m

theorem Machine.State.move_eq (s : State) (m : Move) : s.move m = (s.moved m).editTaken (s.moveTouchesRecord m) := rfl

theorem Machine.State.moveClearings_slotId (s : State) (m : Move) : (s.moveClearings m).slotId = s.slotId :=
  funext fun p => State.slotId_of_rest (s.moveClearings_clears m).rest p

theorem Machine.State.moved_slotId (s : State) (m : Move) (d : Pos) : (s.moved m).slotId d = s.movedId m d := by
  have slots : ∀ u : State, (u.movePlaces m).slotId d = u.movedId m d := fun u => by
    simp [State.slotId, State.movePlaces]
  unfold State.moved
  rw [slots]
  have same : ((s.moveClearings m).moveAlerts m).slotId = s.slotId := s.moveClearings_slotId m
  simp only [State.movedId, State.arrivesAt, State.overrun, same]
  rfl

theorem Machine.State.moved_wheel (s : State) (m : Move) (d : Pos) :
    (s.moved m).wheel d
      = if s.arrivesAt m d then ((s.moveClearings m).wheel (m.source d)).carried (s.detachedSlot d) s.uptime
        else if m.fromHere d || s.overrun m d then .empty
        else (s.moveClearings m).wheel d := by
  have wheels : ∀ u : State, (u.movePlaces m).wheel d = u.movedRecord m d := fun u => by
    simp [State.wheel, State.movePlaces]
  have rest := (s.moveClearings_clears m).rest
  have same : ((s.moveClearings m).moveAlerts m).slotId = s.slotId := s.moveClearings_slotId m
  have off : ((s.moveClearings m).moveAlerts m).detachedSlot = s.detachedSlot := State.detachedSlot_of_rest rest
  have now : ((s.moveClearings m).moveAlerts m).uptime = s.uptime := State.uptime_of_rest rest
  unfold State.moved
  rw [wheels]
  simp only [State.movedRecord, State.arrivesAt, State.overrun, same, off, now]
  rfl

theorem Machine.State.moved_mapless (s : State) (m : Move) : (s.moved m).mapless = s.mapless :=
  have placed : (s.moved m).mapless = (s.moveClearings m).mapless := rfl
  placed.trans (State.mapless_of_rest (s.moveClearings_clears m).rest)

/-- Where the conditions of a wheel are listed after a move (R108). -/
def Machine.State.movedTo (s : State) (m : Move) (p : Pos) : Pos := if s.movesAway m p then m.destination p else p

theorem Machine.State.moved_alerts (s : State) (m : Move) :
    (s.moved m).alerts = (s.moveClearings m).alerts.readdress (s.movedTo m) := by
  have same : (s.moveClearings m).slotId = s.slotId := s.moveClearings_slotId m
  have place : s.movedTo m = fun p => if (s.moveClearings m).movesAway m p then m.destination p else p := by
    funext p
    simp only [State.movedTo, State.movesAway, same]
    rfl
  rw [place]
  rfl

/-! ### The slot map -/

theorem Machine.State.movedId_arrives {s : State} {m : Move} {d : Pos} (h : s.arrivesAt m d = true) :
    s.movedId m d = s.slotId (m.source d) := by rw [State.movedId, if_pos h]

/-- A sensor is found after a move where it was carried, or where it stood untouched. -/
theorem Machine.State.movedId_some {s : State} {m : Move} {d : Pos} {id : SensorId} (h : s.movedId m d = some id) :
    (s.arrivesAt m d = true ∧ s.slotId (m.source d) = some id) ∨ (s.touchedBy m d = false ∧ s.slotId d = some id) := by
  unfold State.movedId at h
  rw [State.touchedBy_iff]
  split at h
  · next a => exact .inl ⟨a, h⟩
  · split at h
    · cases h
    · next c => exact .inr ⟨by simpa using c, h⟩

theorem Machine.State.movesAway_touched {s : State} {m : Move} {p : Pos} (h : s.movesAway m p = true) :
    s.touchedBy m p = true := by
  have fromHere : m.fromHere p = true := (State.movesAway_fromHere h)
  simp [State.touchedBy, fromHere]

theorem Machine.State.arrivesAt_touched {s : State} {m : Move} {p : Pos} (h : s.arrivesAt m p = true) :
    s.touchedBy m p = true := by
  simp [State.touchedBy, h]

theorem mapLaw_moved {s : State} (h : MapLaw s) {m : Move} (hm : m.Fits)
    (fit : ∀ p, s.movesAway m p = true → s.validPos (m.destination p) = true) : MapLaw (s.moved m) where
  valid d id hd := by
    rw [State.moved_slotId] at hd
    rw [State.validPos_of_mapless (s.moved_mapless m)]
    rcases State.movedId_some hd with ⟨a, hs⟩ | ⟨_, hs⟩
    · have goes := State.movesAway_source hm a
      have fits := fit _ goes
      rw [Move.destination_source hm (State.arrivesAt_toHere a)] at fits
      exact ⟨(h.valid _ id hs).1, fits⟩
    · exact h.valid d id hs
  unique d e id hd he := by
    rw [State.moved_slotId] at hd he
    rcases State.movedId_some hd with ⟨a, hs⟩ | ⟨u, hs⟩ <;> rcases State.movedId_some he with ⟨b, ht⟩ | ⟨v, ht⟩
    · have same := congrArg m.destination (h.unique _ _ id hs ht)
      rwa [Move.destination_source hm (State.arrivesAt_toHere a),
        Move.destination_source hm (State.arrivesAt_toHere b)] at same
    · have same := h.unique _ _ id hs ht
      have touched := State.movesAway_touched (State.movesAway_source hm a)
      rw [same, v] at touched; cases touched
    · have same := h.unique _ _ id hs ht
      have touched := State.movesAway_touched (State.movesAway_source hm b)
      rw [← same, u] at touched; cases touched
    · exact h.unique d e id hs ht

/-! ### Records -/

theorem Machine.State.moveClearings_touched {s : State} {m : Move} {q : Pos} (h : s.touchedBy m q = true) (k : Condition) :
    (s.moveClearings m).active q k = (s.active q k && (s.movesAway m q && !s.detachedSlot (m.destination q)
      && (k == .sensorFault || k == .batteryLow))) := by
  rw [State.moveClearings_active, if_pos h]

theorem Machine.State.moveClearings_untouched {s : State} {m : Move} {q : Pos} (h : s.touchedBy m q = false)
    (k : Condition) : (s.moveClearings m).active q k = (s.active q k && !(k == .imbalance
      && (s.axle q.axle).kind == .dual
      && decide (s.touchedBy m q.pairLow = true ∨ s.touchedBy m q.pairHigh = true))) := by
  rw [State.moveClearings_active, if_neg (by simp [h])]

theorem ofBand_ne_kept {k : Condition} (h : k.ofBand) : (k == .sensorFault || k == .batteryLow) = false := by
  cases hk : (k == .sensorFault || k == .batteryLow)
  · rfl
  · rw [Bool.or_eq_true, beq_iff_eq, beq_iff_eq] at hk
    exact absurd h (not_ofBand (by rcases hk with rfl | rfl <;> decide))

/-- An untouched record changes in IMBALANCE at most (R20, R27). -/
theorem Machine.State.moveClearings_wheel_untouched {s : State} {m : Move} {q : Pos} (h : s.touchedBy m q = false) :
    (s.moveClearings m).wheel q = { s.wheel q with
      conditions := (s.wheel q).conditions.put .imbalance ((s.moveClearings m).active q .imbalance) } := by
  have conditions : ((s.moveClearings m).wheel q).conditions
      = (s.wheel q).conditions.put .imbalance ((s.moveClearings m).active q .imbalance) := by
    apply Conditions.ext_has
    intro k
    rw [Conditions.has_put]
    by_cases e : Condition.imbalance = k
    · subst e; rw [if_pos rfl]; rfl
    · have e' : ¬ k = .imbalance := fun c => e c.symm
      rw [if_neg e]
      exact (State.moveClearings_untouched h k).trans (by simp [e', State.active])
  exact ((s.moveClearings_clears m).wheel q).trans (by rw [conditions])

/-- A carried record is sound at its destination (R18). -/
theorem WheelLaws.carried {off : Pos → Bool} {s : State} (h : WheelLaws off s) {m : Move} {p : Pos}
    (hp : s.movesAway m p = true) (now : Uptime) :
    SoundRecord true (s.detachedSlot (m.destination p))
      (((s.moveClearings m).wheel p).carried (s.detachedSlot (m.destination p)) now) := by
  have touched := State.movesAway_touched hp
  have wheel := (s.moveClearings_clears m).wheel p
  have conditions : ∀ k, ((s.moveClearings m).wheel p).conditions.has k = _ := State.moveClearings_touched touched
  refine ⟨?_, ?_, ?_, ?_, ?_, ?_⟩
  · refine (h.sound p).bounds.calmed (r' := WheelRecord.carried _ _ _) ?_ ?_ rfl rfl rfl rfl fun k hk => ?_
    · rw [wheel]; rfl
    · rw [wheel]; rfl
    · exact (conditions k).trans (by simp [ofBand_ne_kept hk])
  · simp only [WheelRecord.carried, startState]; split <;> simp
  · simp only [WheelRecord.carried, startState]; split <;> intro e <;> cases e
  · simp only [WheelRecord.carried, startState]; split
    · next d => exact fun _ => d
    · intro e; cases e
  · simp only [WheelRecord.carried, startState]; split
    · next d =>
      intro _
      apply Conditions.ext_has
      intro k
      exact (conditions k).trans (by simp [d])
    · intro e; cases e
  · simp only [WheelRecord.carried, startState]
    cases s.detachedSlot (m.destination p) <;> simp

theorem Machine.State.moved_wheel_arrived {s : State} {m : Move} (hm : m.Fits) {p : Pos} (hp : s.movesAway m p = true) :
    (s.moved m).wheel (m.destination p)
      = ((s.moveClearings m).wheel p).carried (s.detachedSlot (m.destination p)) s.uptime := by
  rw [State.moved_wheel, if_pos ((State.arrivesAt_iff hm _).2 ⟨p, hp, rfl⟩),
    Move.source_destination hm (State.movesAway_fromHere hp)]

theorem Machine.State.not_arrivesAt_of_untouched {s : State} {m : Move} {d : Pos} (h : s.touchedBy m d = false) :
    ¬ s.arrivesAt m d = true := fun a => by rw [State.arrivesAt_touched a] at h; cases h

theorem Machine.State.moved_wheel_untouched {s : State} {m : Move} {d : Pos} (h : s.touchedBy m d = false) :
    (s.moved m).wheel d = (s.moveClearings m).wheel d := by
  have parts := h
  rw [State.touchedBy_iff] at parts
  rw [State.moved_wheel, if_neg (State.not_arrivesAt_of_untouched h), if_neg (by simp [parts])]

theorem Machine.State.moved_wheel_emptied {s : State} {m : Move} {d : Pos} (h : s.touchedBy m d = true)
    (na : ¬ s.arrivesAt m d = true) : (s.moved m).wheel d = .empty := by
  rw [State.touchedBy_iff] at h
  rw [State.moved_wheel, if_neg na, if_pos h]

theorem Machine.State.touchedBy_pair {s : State} {m : Move} {d : Pos} (h : s.touchedBy m d = true) :
    s.touchedBy m d.pairLow = true ∨ s.touchedBy m d.pairHigh = true :=
  Pos.pair_of (P := fun p => s.touchedBy m p = true) h

/-- A touched position holds no IMBALANCE after a move (R18, R20). -/
theorem Machine.State.moved_imbalance_touched {s : State} {m : Move} (hm : m.Fits) {d : Pos}
    (h : s.touchedBy m d = true) : (s.moved m).active d .imbalance = false := by
  by_cases a : s.arrivesAt m d = true
  · obtain ⟨p, hp, rfl⟩ := (State.arrivesAt_iff hm d).1 a
    have cleared := State.moveClearings_touched (State.movesAway_touched hp) .imbalance
    unfold State.active at cleared ⊢
    rw [State.moved_wheel_arrived hm hp]
    exact cleared.trans (by simp)
  · unfold State.active
    rw [State.moved_wheel_emptied h a]; rfl

/-- IMBALANCE after a move: that of the pairs that it does not touch. -/
theorem Machine.State.moved_imbalance {s : State} (h : PairLaw s) {m : Move} (hm : m.Fits) (d : Pos) :
    (s.moved m).active d .imbalance
      = (s.active d .imbalance && !decide (s.touchedBy m d.pairLow = true ∨ s.touchedBy m d.pairHigh = true)) := by
  cases td : s.touchedBy m d
  · have same : (s.moved m).active d .imbalance = (s.moveClearings m).active d .imbalance := by
      unfold State.active; rw [State.moved_wheel_untouched td]
    rw [same, State.moveClearings_untouched td]
    cases on : s.active d .imbalance
    · rfl
    · simp [(h.dual d on).2]
  · rw [State.moved_imbalance_touched hm td]; simp [State.touchedBy_pair td]

theorem pairLaw_moved {s : State} (h : PairLaw s) {m : Move} (hm : m.Fits) : PairLaw (s.moved m) where
  dual d hd := by
    rw [State.moved_imbalance h hm, Bool.and_eq_true] at hd
    rw [State.axle_of_mapless (s.moved_mapless m)]; exact h.dual d hd.1
  live d hd := by
    rw [State.moved_imbalance h hm, Bool.and_eq_true] at hd
    have free : ¬ (s.touchedBy m d.pairLow = true ∨ s.touchedBy m d.pairHigh = true) := by simpa using hd.2
    have td : s.touchedBy m d = false := by
      cases t : s.touchedBy m d
      · rfl
      · exact absurd (State.touchedBy_pair t) free
    rw [State.moved_wheel_untouched td, State.moveClearings_wheel_untouched td]
    exact h.live d hd.1
  both d := by
    rw [State.moved_imbalance h hm, State.moved_imbalance h hm, h.both d, Pos.pairLow_pairLow, Pos.pairHigh_pairLow,
      Pos.pairLow_pairHigh, Pos.pairHigh_pairHigh]

theorem WheelLaws.sound_moved {off : Pos → Bool} {s : State} (h : WheelLaws off s) (ho : off = s.detachedSlot) {m : Move}
    (hm : m.Fits) : (s.moved m).SoundWith s.detachedSlot := by
  intro d
  rw [State.moved_slotId]
  by_cases a : s.arrivesAt m d = true
  · obtain ⟨p, hp, rfl⟩ := (State.arrivesAt_iff hm d).1 a
    rw [State.movedId_arrives a, State.moved_wheel_arrived hm hp,
      Move.source_destination hm (State.movesAway_fromHere hp), State.movesAway_held hp]
    exact h.carried hp _
  · cases td : s.touchedBy m d
    · have parts := td
      rw [State.touchedBy_iff] at parts
      rw [State.moved_wheel_untouched td, State.moveClearings_wheel_untouched td, State.movedId, if_neg a,
        if_neg (by simp [parts])]
      subst ho
      cases on : (s.moveClearings m).active d .imbalance
      · exact (h.sound d).clear (not_ofBand (by decide))
      · have live := WheelRecord.state_of_livePressure (h.pair.live d ((s.moveClearings_clears m).active_of on))
        exact (h.sound d).raise (not_ofBand (by decide)) (by simp [live]) (by simp [live])
    · rw [State.moved_wheel_emptied td a]
      rw [State.touchedBy_iff] at td
      rw [State.movedId, if_neg a, if_pos td]
      exact soundRecord_empty _

/-! ### The alert list -/

/-- A condition that a move leaves active on a record that it does not carry is on an untouched one. -/
theorem Machine.State.untouched_of_active {s : State} {m : Move} {p : Pos} {k : Condition}
    (on : (s.moveClearings m).active p k = true) (away : s.movesAway m p = false) : s.touchedBy m p = false := by
  cases t : s.touchedBy m p
  · rfl
  · rw [State.moveClearings_touched t, away] at on
    simp at on

/-- The conditions that a move leaves active are active where they are re-addressed to. -/
theorem Machine.State.moved_active {s : State} {m : Move} (hm : m.Fits) {p : Pos} {k : Condition}
    (on : (s.moveClearings m).active p k = true) : (s.moved m).active (s.movedTo m p) k = true := by
  unfold State.movedTo
  cases away : s.movesAway m p
  · unfold State.active at on ⊢
    rw [if_neg (by simp), State.moved_wheel_untouched (State.untouched_of_active on away)]; exact on
  · unfold State.active at on ⊢
    rw [if_pos rfl, State.moved_wheel_arrived hm away]; exact on

/-- No two wheels with active conditions are re-addressed to one place: a carried record's place is touched. -/
theorem Machine.State.movedTo_inj {s : State} {m : Move} (hm : m.Fits) {p q : Pos} {k j : Condition}
    (onp : (s.moveClearings m).active p k = true) (onq : (s.moveClearings m).active q j = true)
    (e : s.movedTo m p = s.movedTo m q) : p = q := by
  have apart : ∀ {p q : Pos} {k : Condition}, (s.moveClearings m).active p k = true → s.movesAway m p = false →
      s.movesAway m q = true → p ≠ m.destination q := by
    intro p q k on ap aq e
    have t := State.arrivesAt_touched ((State.arrivesAt_iff hm p).2 ⟨q, aq, e.symm⟩)
    rw [State.untouched_of_active on ap] at t
    cases t
  unfold State.movedTo at e
  cases ap : s.movesAway m p <;> cases aq : s.movesAway m q <;>
    simp only [ap, aq, if_true, if_false, Bool.false_eq_true] at e
  · exact e
  · exact absurd e (apart onp ap aq)
  · exact absurd e.symm (apart onq aq ap)
  · have src := congrArg m.source e
    rwa [Move.source_destination hm (State.movesAway_fromHere ap),
      Move.source_destination hm (State.movesAway_fromHere aq)] at src

theorem alertLaw_moved {s : State} (h : AlertLaw s) {m : Move} (hm : m.Fits) : AlertLaw (s.moved m) := by
  have law := (s.moveClearings_clears m).alertLaw h
  have members : (s.moved m).alerts.entries.map named ++ (s.moved m).alerts.overflow
      = ((s.moveClearings m).alerts.entries.map named ++ (s.moveClearings m).alerts.overflow).map
        fun x => (s.movedTo m x.1, x.2) := by
    rw [State.moved_alerts]
    simp [AlertBlock.readdress, named, Function.comp_def]
  refine ⟨?_, ?_, ?_, ?_⟩
  · rw [State.moved_alerts]
    simpa [AlertBlock.readdress] using law.bounded
  · rw [members]
    refine law.distinct.map_on fun x hx y hy e => ?_
    obtain ⟨place, kind⟩ := Prod.mk.inj e
    exact Prod.ext (State.movedTo_inj hm (law.active x hx) (law.active y hy) place) kind
  · rw [members]
    intro x hx
    obtain ⟨y, hy, rfl⟩ := List.mem_map.1 hx
    exact State.moved_active hm (law.active y hy)
  · rw [State.moved_alerts]
    intro ne
    exact law.marker fun e => ne (by simp [AlertBlock.readdress, e])

/-- The laws of wheel table, map and alert list hold after a move whose destinations are valid (R26, R27). -/
theorem WheelLaws.moved {s : State} (h : WheelLaws s.detachedSlot s) {m : Move} (hm : m.Fits)
    (fit : ∀ p, s.movesAway m p = true → s.validPos (m.destination p) = true) :
    WheelLaws s.detachedSlot (s.moved m) :=
  ⟨mapLaw_moved h.map hm fit, h.sound_moved rfl hm, pairLaw_moved h.pair hm, alertLaw_moved h.alert hm⟩

end Sys2Proof

/-! ## The laws that the statements of this family keep, and what they read -/

namespace Sys2Proof
open Machine Safety

/-- The laws that do not speak of wheel records, slot map and alert list. -/
structure OuterLaws (s : State) : Prop where
  range : RangeLaw s
  lift : LiftLaw s
  session : SessionLaw s

/-- The laws of the three step statements of this family. -/
structure Kept (s : State) : Prop where
  outer : OuterLaws s
  wheels : WheelLaws s.detachedSlot s

/-- What OuterLaws reads of a state. -/
def Machine.State.outer (s : State) : State :=
  { State.reset with
    axles := s.axles
    protect := s.protect
    profiles := s.profiles
    learn := ⟨s.learn.session, .none⟩
    vehicle := { Vehicle.reset with lifted := s.vehicle.lifted, trailer := s.vehicle.trailer, ambient := s.vehicle.ambient }
    config := s.config
    supply := ⟨.normal, 0, s.supply.lastSample⟩
    store := ⟨if s.loading then .loading else .idle, none, false, .none⟩
    portA := { Port.reset with staging := s.portA.staging }
    portB := { Port.reset with staging := s.portB.staging } }

/-- What WheelLaws reads of a state besides the detached slots. -/
def Machine.State.inner (s : State) :
    Vector AxleRecord 10 × Vector (Option SensorId) 40 × Vector WheelRecord 40 × AlertBlock :=
  (s.axles, s.slots, s.wheels, s.alerts)

theorem Machine.State.outer_loading {s t : State} (h : t.outer = s.outer) : t.loading = s.loading := by
  have e := congrArg (fun x => x.store.state) h
  cases ht : t.loading <;> cases hs : s.loading <;> simp [State.outer, ht, hs] at e <;> rfl

theorem OuterLaws.of_outer {s t : State} (k : OuterLaws s) (h : t.outer = s.outer) : OuterLaws t := by
  have axles : t.axles = s.axles := (congrArg State.axles h :)
  have protect : t.protect = s.protect := (congrArg State.protect h :)
  have profiles : t.profiles = s.profiles := (congrArg State.profiles h :)
  have session : t.learn.session = s.learn.session := (congrArg (fun x : State => x.learn.session) h :)
  have lifted : t.vehicle.lifted = s.vehicle.lifted := (congrArg (fun x : State => x.vehicle.lifted) h :)
  have trailer : t.vehicle.trailer = s.vehicle.trailer := (congrArg (fun x : State => x.vehicle.trailer) h :)
  have ambient : t.vehicle.ambient = s.vehicle.ambient := (congrArg (fun x : State => x.vehicle.ambient) h :)
  have config : t.config = s.config := (congrArg State.config h :)
  have sample : t.supply.lastSample = s.supply.lastSample := (congrArg (fun x : State => x.supply.lastSample) h :)
  have stagingA : t.portA.staging = s.portA.staging := (congrArg (fun x : State => x.portA.staging) h :)
  have stagingB : t.portB.staging = s.portB.staging := (congrArg (fun x : State => x.portB.staging) h :)
  have loading := State.outer_loading h
  have axle : t.axle = s.axle := by funext a; simp [State.axle, axles]
  have valid : t.validPos = s.validPos := by funext p; simp [State.validPos, axle]
  have positions : t.positionList = s.positionList := by funext r; simp [State.positionList, valid]
  have trailers : t.rangeHasTrailer = s.rangeHasTrailer := by funext r; simp [State.rangeHasTrailer, axle]
  obtain ⟨range, lift, run⟩ := k
  refine ⟨⟨?_, ?_, ?_, ?_, ?_, ?_, ?_, ?_⟩, ⟨?_, ?_⟩, ⟨?_, ?_, ?_, ?_, ?_, ?_, ?_, ?_⟩⟩
  · rw [config]; exact range.config
  · rw [profiles]; exact range.profiles
  · rw [profiles]; exact range.checks
  · intro g hg; exact range.stagingA g (stagingA ▸ hg)
  · intro g hg; exact range.stagingB g (stagingB ▸ hg)
  · rw [ambient]; exact range.ambient
  · rw [protect]; exact range.protect
  · rw [sample]; exact range.sample
  · rw [lifted, axle]; exact lift.admitted
  · rw [loading, axle]; exact lift.loading
  · rw [session]; exact run.range
  · rw [session, positions]; exact run.positions
  · rw [session]; exact run.cursor
  · rw [session]; exact run.staged
  · rw [session]; exact run.ids
  · rw [session]; exact run.unique
  · rw [session, trailers, trailer]; exact run.trailer
  · rw [session, loading]; exact run.loaded

theorem WheelLaws.of_inner {off : Pos → Bool} {s t : State} (k : WheelLaws off s) (h : t.inner = s.inner) :
    WheelLaws off t := by
  simp only [State.inner, Prod.mk.injEq] at h
  obtain ⟨axles, slots, wheels, alerts⟩ := h
  have axle : t.axle = s.axle := by funext a; simp [State.axle, axles]
  have slotId : t.slotId = s.slotId := by funext p; simp [State.slotId, slots]
  have wheel : t.wheel = s.wheel := by funext p; simp [State.wheel, wheels]
  have active : t.active = s.active := by funext p c; simp [State.active, wheel]
  refine ⟨mapLaw_of_slots k.map axles (by simp [slotId]), fun p => ?_, ⟨?_, ?_, ?_⟩,
    alertLaw_of_same k.alert alerts (by simp [active])⟩
  · rw [slotId, wheel]; exact k.sound p
  · rw [active, axle]; exact k.pair.dual
  · rw [active, wheel]; exact k.pair.live
  · rw [active]; exact k.pair.both

/-- The detached slots may be called otherwise where no record is DETACHED. -/
theorem WheelLaws.widen {off off' : Pos → Bool} {s : State} (k : WheelLaws off s)
    (h : ∀ p, (s.wheel p).state = .detached → off' p = true) : WheelLaws off' s :=
  { k with sound := fun p => (k.sound p).widen (h p) }

theorem Machine.State.outer_detachedSlot {s t : State} (h : t.outer = s.outer) : t.detachedSlot = s.detachedSlot := by
  have axles : t.axles = s.axles := (congrArg State.axles h :)
  have trailer : t.vehicle.trailer = s.vehicle.trailer := (congrArg (fun x : State => x.vehicle.trailer) h :)
  funext p
  simp [State.detachedSlot, State.axle, axles, trailer]

theorem Kept.of_eq {s t : State} (k : Kept s) (ho : t.outer = s.outer) (hi : t.inner = s.inner) : Kept t :=
  ⟨k.outer.of_outer ho, by rw [State.outer_detachedSlot ho]; exact k.wheels.of_inner hi⟩

theorem Machine.State.outer_of_mapless {s t : State} (h : t.mapless = s.mapless) : t.outer = s.outer :=
  (congrArg State.outer h :)

/-- A change of wheel records, slot map and alert list alone. -/
theorem Kept.of_mapless {s t : State} (k : Kept s) (h : t.mapless = s.mapless) (w : WheelLaws s.detachedSlot t) : Kept t :=
  ⟨k.outer.of_outer (State.outer_of_mapless h), by rw [State.detachedSlot_of_mapless h]; exact w⟩

theorem Kept.of_rest {s t : State} (k : Kept s) (h : t.rest = s.rest) (w : WheelLaws s.detachedSlot t) : Kept t :=
  k.of_mapless (State.mapless_of_rest h) w

theorem Kept.of_lawful {s : State} (h : Lawful s) : Kept s where
  outer := ⟨h.range, h.lift, h.session⟩
  wheels := {
    map := h.map
    pair := h.pair
    alert := h.alert
    sound := fun p => {
      bounds := {
        cold := h.pressure.cold p
        held := h.pressure.held p
        pressure := fun z k hz => by
          cases z <;> cases hz
          · exact h.mirror.lowAlarm p
          · exact h.mirror.lowWarn p
          · exact h.mirror.highWarn p
        temperature := fun z k hz => by
          cases z <;> cases hz
          · exact h.mirror.hotWarn p
          · exact h.mirror.hotAlarm p
        pending := ⟨h.count.pending p, h.count.floor p⟩
        leak := h.count.leak p }
      empty := by rw [h.record.empty p]; simp
      values := h.record.values p
      detached := h.detached.detached p
      quiet := h.detached.conditions p
      stale := h.stale p } }

/-! ### The laws of the statements, read off -/

theorem Kept.pressureLaw {s : State} (k : Kept s) : PressureLaw s :=
  ⟨fun p => (k.wheels.sound p).bounds.cold, fun p => (k.wheels.sound p).bounds.held⟩

theorem Kept.countLaw {s : State} (k : Kept s) : CountLaw s :=
  ⟨fun p => (k.wheels.sound p).bounds.pending.1, fun p => (k.wheels.sound p).bounds.pending.2,
    fun p => (k.wheels.sound p).bounds.leak⟩

theorem Kept.recordLaw {s : State} (k : Kept s) : RecordLaw s :=
  ⟨fun p => by rw [(k.wheels.sound p).empty]; simp, fun p => (k.wheels.sound p).values⟩

theorem Kept.detachedLaw {s : State} (k : Kept s) : DetachedLaw s :=
  ⟨fun p => (k.wheels.sound p).detached, fun p => (k.wheels.sound p).quiet⟩

theorem Kept.staleLaw {s : State} (k : Kept s) : StaleLaw s := fun p => (k.wheels.sound p).stale

theorem Kept.mirrorLaw {s : State} (k : Kept s) : MirrorLaw s where
  lowAlarm p := (k.wheels.sound p).bounds.pressure .alarmLow .lowAlarm rfl
  lowWarn p := (k.wheels.sound p).bounds.pressure .warnLow .lowWarn rfl
  highWarn p := (k.wheels.sound p).bounds.pressure .highWarn .highWarn rfl
  hotWarn p := (k.wheels.sound p).bounds.temperature .hotWarn .hotWarn rfl
  hotAlarm p := (k.wheels.sound p).bounds.temperature .hotAlarm .hotAlarm rfl

/-! ### Updates that no law reads -/

@[simp] theorem Machine.State.setPort_inner (s : State) (q : PortId) (x : Port) : (s.setPort q x).inner = s.inner := by
  cases q <;> rfl
@[simp] theorem Machine.State.answer_inner (s : State) (q : PortId) (st : Status) (bs : List Byte) :
    (s.answer q st bs).inner = s.inner := by cases q <;> rfl
@[simp] theorem Machine.State.refuse_inner (s : State) (q : PortId) (st : Status) : (s.refuse q st).inner = s.inner := by
  cases q <;> rfl
@[simp] theorem Machine.State.setFlag_inner (s : State) (q : PortId) (e : EventFlag) : (s.setFlag q e).inner = s.inner := by
  cases q <;> rfl
@[simp] theorem Machine.State.setFlagBoth_inner (s : State) (e : EventFlag) : (s.setFlagBoth e).inner = s.inner := rfl
@[simp] theorem Machine.State.setFlagIf_inner (s : State) (c : Bool) (e : EventFlag) : (s.setFlagIf c e).inner = s.inner := by
  cases c <;> rfl
@[simp] theorem Machine.State.noteWheels_inner (b a : State) : (b.noteWheels a).inner = a.inner := by simp [State.noteWheels]
@[simp] theorem Machine.State.putPermit_inner (s : State) (x : Permit) : (s.putPermit x).inner = s.inner := by
  simp [State.putPermit, State.inner]
@[simp] theorem Machine.State.evaluate_inner (s : State) : s.evaluate.inner = s.inner := by
  unfold State.evaluate; split <;> simp
@[simp] theorem Machine.State.editTaken_inner (s : State) (w : Bool) : (s.editTaken w).inner = s.inner := by
  unfold State.editTaken
  rw [State.evaluate_inner, State.setFlagIf_inner, State.setFlagBoth_inner]; rfl
@[simp] theorem Machine.State.endSession_inner (s : State) (o : LearnOutcome) : (s.endSession o).inner = s.inner := rfl

theorem Machine.State.setPort_outer (s : State) (q : PortId) (x : Port) (h : x.staging = (s.port q).staging) :
    (s.setPort q x).outer = s.outer := by
  cases q
  · have h : x.staging = s.portA.staging := h
    simp only [State.outer, State.setPort, h]
    rfl
  · have h : x.staging = s.portB.staging := h
    simp only [State.outer, State.setPort, h]
    rfl
@[simp] theorem Machine.State.answer_outer (s : State) (q : PortId) (st : Status) (bs : List Byte) :
    (s.answer q st bs).outer = s.outer := State.setPort_outer s q _ rfl
@[simp] theorem Machine.State.refuse_outer (s : State) (q : PortId) (st : Status) : (s.refuse q st).outer = s.outer :=
  State.answer_outer s q st []
@[simp] theorem Machine.State.setFlag_outer (s : State) (q : PortId) (e : EventFlag) : (s.setFlag q e).outer = s.outer :=
  State.setPort_outer s q _ rfl
@[simp] theorem Machine.State.setFlagBoth_outer (s : State) (e : EventFlag) : (s.setFlagBoth e).outer = s.outer := by
  simp [State.setFlagBoth]
@[simp] theorem Machine.State.setFlagIf_outer (s : State) (c : Bool) (e : EventFlag) : (s.setFlagIf c e).outer = s.outer := by
  cases c
  · rfl
  · exact State.setFlagBoth_outer s e
@[simp] theorem Machine.State.noteWheels_outer (b a : State) : (b.noteWheels a).outer = a.outer := by simp [State.noteWheels]
@[simp] theorem Machine.State.putPermit_outer (s : State) (x : Permit) : (s.putPermit x).outer = s.outer :=
  State.outer_of_mapless (State.mapless_of_rest (State.putPermit_rest s x))
@[simp] theorem Machine.State.evaluate_outer (s : State) : s.evaluate.outer = s.outer :=
  State.outer_of_mapless (State.mapless_of_rest (State.evaluate_rest s))
@[simp] theorem Machine.State.withGeneration_outer (s : State) (g : Generation) :
    State.outer { s with generation := g } = s.outer := rfl
@[simp] theorem Machine.State.withGeneration_inner (s : State) (g : Generation) :
    State.inner { s with generation := g } = s.inner := rfl
@[simp] theorem Machine.State.editTaken_outer (s : State) (w : Bool) : (s.editTaken w).outer = s.outer := by
  simp [State.editTaken]

theorem Kept.answer {s : State} (k : Kept s) (q : PortId) (st : Status) (bs : List Byte) : Kept (s.answer q st bs) :=
  k.of_eq (by simp) (by simp)
theorem Kept.refuse {s : State} (k : Kept s) (q : PortId) (st : Status) : Kept (s.refuse q st) := k.answer q st []
theorem Kept.setFlag {s : State} (k : Kept s) (q : PortId) (e : EventFlag) : Kept (s.setFlag q e) :=
  k.of_eq (by simp) (by simp)
theorem Kept.setFlagBoth {s : State} (k : Kept s) (e : EventFlag) : Kept (s.setFlagBoth e) := k.of_eq (by simp) (by simp)
theorem Kept.evaluate {s : State} (k : Kept s) : Kept s.evaluate := k.of_eq (by simp) (by simp)
theorem Kept.noteWheels {s : State} (k : Kept s) (b : State) : Kept (b.noteWheels s) := k.of_eq (by simp) (by simp)
theorem Kept.editTaken {s : State} (k : Kept s) (w : Bool) : Kept (s.editTaken w) := k.of_eq (by simp) (by simp)

theorem sessionLaw_of_none {s : State} (h : s.learn.session = none) : SessionLaw s := by
  constructor <;> simp [h]

/-- A session that ends leaves nothing for its laws to speak of. -/
theorem Kept.endSession {s : State} (k : Kept s) (o : LearnOutcome) : Kept (s.endSession o) where
  outer := ⟨{ k.outer.range with }, { k.outer.lift with }, sessionLaw_of_none rfl⟩
  wheels := k.wheels.of_inner rfl

/-! ### Transactions -/

/-- A transaction keeps the laws if its taken command does. -/
theorem Kept.transact {s : State} (k : Kept s) (q : PortId) {f : State → State} (h : Kept (f s)) : Kept (s.transact q f) :=
  State.transact_cases Kept h (k.of_eq (State.setPort_outer s q _ rfl) (by simp))

theorem Kept.unlessLoading {s : State} (k : Kept s) (q : PortId) {f : State → State} (h : s.loading = false → Kept (f s)) :
    Kept (s.unlessLoading q f) := by
  refine k.transact q ?_
  cases l : s.loading
  · exact h l
  · exact k.refuse q .busy

end Sys2Proof

/-! ## Commands of the block, the ports, the vehicle items and the store keep the laws -/

namespace Sys2Proof
open Machine Safety

/-- What a command answers satisfies a predicate, if it is a next state. -/
def Machine.Result.Gives (P : State → Prop) (r : Result) : Prop := ∀ t, r = .next t → P t

theorem Machine.Result.gives_next {P : State → Prop} {t : State} (h : P t) : Result.Gives P (.next t) := by
  intro u e
  cases e
  exact h

open Machine.Result (gives_next)

/-! ### Reset, time, supply -/

theorem clampInt_range {lo hi : Int} (h : lo ≤ hi) (x : Int) : lo ≤ clampInt lo hi x ∧ clampInt lo hi x ≤ hi := by
  unfold clampInt
  split
  · omega
  · split <;> omega

theorem configInRange_default : ConfigInRange ConfigItems.default := by
  constructor <;> decide

theorem profileInRange_default : ProfileInRange Profile.default := by
  unfold ProfileInRange
  decide

@[simp] theorem Vector.getElem_fin_replicate {α : Type} {n : Nat} (x : α) (i : Fin n) : (Vector.replicate n x)[i] = x := by
  simp

@[simp] theorem reset_slotId (p : Pos) : State.reset.slotId p = none := by simp [State.slotId, State.reset]
@[simp] theorem reset_wheel (p : Pos) : State.reset.wheel p = .empty := by simp [State.wheel, State.reset]
@[simp] theorem reset_axle (a : Fin 10) : State.reset.axle a = .default := by simp [State.axle, State.reset]

theorem kept_reset : Kept State.reset where
  outer := {
    range := {
      config := configInRange_default
      profiles := fun f => by
        rw [show State.reset.profiles[f] = Profile.default by simp [State.reset]]; exact profileInRange_default
      checks := fun f => by
        rw [show State.reset.profiles[f] = Profile.default by simp [State.reset]]; decide
      stagingA := fun g h => by cases h
      stagingB := fun g h => by cases h
      ambient := by decide
      protect := fun r h => by cases h
      sample := fun v h => by cases h }
    lift := {
      admitted := fun a h => by simp [State.reset, Vehicle.reset] at h
      loading := fun _ a => by rw [reset_axle]; rfl }
    session := sessionLaw_of_none rfl }
  wheels := {
    map := ⟨fun p id h => by simp at h, fun p q id h => by simp at h⟩
    sound := fun p => by rw [reset_slotId, reset_wheel]; exact soundRecord_empty _
    pair := ⟨fun p h => by simp [State.active, WheelRecord.empty] at h,
      fun p h => by simp [State.active, WheelRecord.empty] at h, fun p => by simp [State.active]⟩
    alert := ⟨Nat.zero_le _, List.nodup_nil, fun m h => (List.not_mem_nil h).elim, fun h => (h rfl).elim⟩ }

theorem kept_restart (s : State) : Kept s.restart := kept_reset.of_eq rfl rfl

theorem Kept.uptimeTick {s : State} (k : Kept s) : Kept { s with uptime := s.uptime + 1 } := k.of_eq rfl rfl

/-- A learn sequencer with a session that keeps its laws (R127, R128). -/
theorem Kept.putLearn {s : State} (k : Kept s) (l : Learn) (law : SessionLaw { s with learn := l }) :
    Kept { s with learn := l } where
  outer := ⟨{ k.outer.range with }, { k.outer.lift with }, law⟩
  wheels := k.wheels.of_inner rfl

/-- A supply watch with a last sample in its range (R154). -/
theorem Kept.putSupply {s : State} (k : Kept s) (x : Supply) (h : ∀ v, x.lastSample = some v → v ≤ 400) :
    Kept { s with supply := x } where
  outer := ⟨{ k.outer.range with sample := h }, { k.outer.lift with }, { k.outer.session with }⟩
  wheels := k.wheels.of_inner rfl

theorem Kept.moveTimerStart {s : State} (k : Kept s) : Kept s.moveTimerStart := by
  unfold State.moveTimerStart
  split
  · next l hl =>
    have law := k.outer.session
    refine k.putLearn _ ⟨?_, ?_, ?_, ?_, ?_, ?_, ?_, ?_⟩
    · rintro _ ⟨⟩; exact law.range l hl
    · rintro _ ⟨⟩; exact law.positions l hl
    · rintro _ ⟨⟩; exact law.cursor l hl
    · rintro _ ⟨⟩; exact law.staged l hl
    · rintro _ ⟨⟩; exact law.ids l hl
    · rintro _ ⟨⟩; exact law.unique l hl
    · rintro _ ⟨⟩; exact law.trailer l hl
    · intro _; exact law.loaded (by simp [hl])
  · exact k

/-- A write that begins outside LOADING (R162). -/
theorem Kept.beginWrite {s : State} (k : Kept s) (h : s.loading = false) : Kept s.beginWrite := by
  have begun : s.beginWrite.loading = false := rfl
  exact k.of_eq (by unfold State.outer; rw [begun, h]; rfl) rfl

theorem Kept.beginPendingWrite {s : State} (k : Kept s) : Kept s.beginPendingWrite := by
  unfold State.beginPendingWrite
  split
  · next h => exact k.beginWrite (by simp [State.loading, h])
  · exact k

theorem Kept.supplyToLow {s : State} (k : Kept s) : Kept s.supplyToLow :=
  (k.putSupply { s.supply with state := .low, recovery := 0 } k.outer.range.sample).setFlagBoth .supply

theorem Kept.supplyToNormal {s : State} (k : Kept s) : Kept s.supplyToNormal := by
  have normal := k.putSupply { s.supply with state := .normal, recovery := 0 } k.outer.range.sample
  have refs := normal.of_rest (t := State.moveSilenceRefs { s with supply := { s.supply with state := .normal, recovery := 0 } })
    rfl normal.wheels.moveSilenceRefs
  exact refs.moveTimerStart.beginPendingWrite.setFlagBoth .supply

theorem Kept.judgeSample {s : State} (k : Kept s) (v : Nat) : Kept (s.judgeSample v) := by
  unfold State.judgeSample
  dsimp only
  split
  · split
    · exact k.supplyToLow
    · exact k
  · split
    · split
      · exact k.putSupply { s.supply with recovery := 1 } k.outer.range.sample
      · exact k.supplyToNormal
    · exact k.putSupply { s.supply with recovery := 0 } k.outer.range.sample

theorem Kept.vsenseSample {s : State} (k : Kept s) (level : Int) : Result.Gives Kept (execVsenseSample level s) := by
  unfold execVsenseSample
  split
  · refine gives_next (Kept.judgeSample (k.putSupply { s.supply with lastSample := some (clampSample level) } ?_) _)
    rintro _ ⟨⟩
    have := clampInt_range (lo := 0) (hi := 400) (by decide) level
    unfold clampSample
    omega
  · exact gives_next k

end Sys2Proof

/-! ## Receivers, reads, marks, flags and the store keep the laws -/

namespace Sys2Proof
open Machine Safety
open Machine.Result (gives_next)

/-! ### Receivers and queue -/

theorem Kept.setReceiver {s : State} (k : Kept s) (ch : Channel) (r : Receiver) : Kept (s.setReceiver ch r) :=
  k.of_eq (by cases ch <;> rfl) (by cases ch <;> rfl)

theorem Kept.completeTelegram {s : State} (k : Kept s) (ch : Channel) (rssi : Int) (bits : List Bool) :
    Kept (s.completeTelegram ch rssi bits) := by
  unfold State.completeTelegram
  split
  · unfold State.offer
    split
    · exact k.of_eq rfl rfl
    · exact Kept.setFlagBoth (k.of_eq (t := { s with lostPending := true }) rfl rfl) .queueLost
  · exact k

theorem Kept.telegramCompletion {s : State} (k : Kept s) (ch : Channel) (bits : List Bool) :
    Result.Gives Kept (execTelegramCompletion ch bits s) := by
  unfold execTelegramCompletion
  split
  · exact gives_next k
  · split
    · exact gives_next ((k.setReceiver ch _).completeTelegram ch _ _)
    · exact gives_next (k.setReceiver ch _)

/-! ### Replies alone -/

/-- A read that the load does not take. -/
theorem Kept.read {s : State} (k : Kept s) (q : PortId) (f : State → List Byte) :
    Result.Gives Kept (.next (s.unlessLoading q fun s => s.answer q .ok (f s))) :=
  gives_next (k.unlessLoading q fun _ => k.answer q _ _)

/-- A read with a check of its parameters. -/
theorem Kept.checkedRead {s : State} (k : Kept s) (q : PortId) (c : Prop) [Decidable c] (f : State → List Byte) :
    Result.Gives Kept (.next (s.unlessLoading q fun s => if c then s.answer q .ok (f s) else s.refuse q .range)) := by
  refine gives_next (k.unlessLoading q fun _ => ?_)
  split
  · exact k.answer q _ _
  · exact k.refuse q _

theorem Kept.readWheels {s : State} (k : Kept s) (q : PortId) (a b c d : Byte) :
    Result.Gives Kept (execReadWheels q a b c d s) := by
  refine gives_next (k.unlessLoading q fun _ => ?_)
  split
  · exact Kept.answer (k.of_eq (t := { s with freeIndex := s.freeIndex + 1 }) rfl rfl) q _ _
  · exact k.refuse q _

theorem Kept.profileRead {s : State} (k : Kept s) (q : PortId) (n : Byte) : Result.Gives Kept (execProfileRead q n s) := by
  refine gives_next (k.unlessLoading q fun _ => ?_)
  split
  · exact k.refuse q _
  · exact k.answer q _ _

theorem Kept.malformedCommandFrame {s : State} (k : Kept s) (q : PortId) (sdi : List Bool) :
    Result.Gives Kept (execMalformedCommandFrame q sdi s) := by
  refine gives_next (k.transact q ?_)
  split
  · exact k.refuse q _
  · exact k

/-! ### Port interfaces -/

/-- A port written with its staging kept or dropped. -/
theorem Kept.setPort {s : State} (k : Kept s) (q : PortId) (x : Port) (h : StagingInRange x) : Kept (s.setPort q x) where
  outer := by
    cases q
    · exact ⟨{ k.outer.range with stagingA := h }, { k.outer.lift with }, { k.outer.session with }⟩
    · exact ⟨{ k.outer.range with stagingB := h }, { k.outer.lift with }, { k.outer.session with }⟩
  wheels := by
    have off : (s.setPort q x).detachedSlot = s.detachedSlot := by cases q <;> rfl
    rw [off]
    exact k.wheels.of_inner (by simp)

theorem Kept.staging {s : State} (k : Kept s) (q : PortId) : StagingInRange (s.port q) := by
  cases q
  · exact k.outer.range.stagingA
  · exact k.outer.range.stagingB

theorem Kept.getEvents {s : State} (k : Kept s) (q : PortId) : Result.Gives Kept (execGetEvents q s) :=
  gives_next (k.transact q (Kept.answer (k.setPort q { s.port q with flags := 0 } (k.staging q)) q _ _))

theorem Kept.setEventMask {s : State} (k : Kept s) (q : PortId) (mask : Half) :
    Result.Gives Kept (execSetEventMask q mask s) :=
  gives_next (k.transact q (Kept.answer (k.setPort q { s.port q with mask := mask.setWidth 11 } (k.staging q)) q _ _))

/-! ### Unacknowledged marks -/

/-- An alert list in which only the marks of entries differ. -/
theorem Kept.marks {s : State} (k : Kept s) (f : AlertEntry → AlertEntry) (named : ∀ e, named (f e) = named e) :
    Kept { s with alerts := { s.alerts with entries := s.alerts.entries.map f } } where
  outer := ⟨{ k.outer.range with }, { k.outer.lift with }, { k.outer.session with }⟩
  wheels := {
    map := { k.wheels.map with }
    sound := k.wheels.sound
    pair := { k.wheels.pair with }
    alert := by
      have same : (s.alerts.entries.map f).map Safety.named = s.alerts.entries.map Safety.named := by
        rw [List.map_map]
        exact List.map_congr_left fun e _ => named e
      have law := k.wheels.alert
      refine ⟨?_, ?_, ?_, law.marker⟩
      · simpa using law.bounded
      · show (List.map Safety.named (s.alerts.entries.map f) ++ s.alerts.overflow).Nodup
        rw [same]; exact law.distinct
      · show ∀ m ∈ List.map Safety.named (s.alerts.entries.map f) ++ s.alerts.overflow, s.active m.1 m.2 = true
        rw [same]; exact law.active }

theorem Machine.AlertEntry.named_setUnack (e : AlertEntry) (q : PortId) (b : Bool) : named (e.setUnack q b) = named e := by
  cases q <;> rfl

theorem Kept.portReset {s : State} (k : Kept s) (q : PortId) : Result.Gives Kept (execPortReset q s) := by
  have marked := k.marks (fun e => e.setUnack q true) fun e => e.named_setUnack q true
  exact gives_next (k.unlessLoading q fun _ => (marked.setPort q _ fun g h => by cases h).answer q _ _)

theorem Kept.ackAlert {s : State} (k : Kept s) (q : PortId) (a b c : Byte) : Result.Gives Kept (execAckAlert q a b c s) := by
  refine gives_next (k.unlessLoading q fun _ => ?_)
  split
  · next p kind _ _ =>
    exact (k.marks (fun e => if e.acked p kind then e.setUnack q false else e) fun e => by
      split
      · exact e.named_setUnack q false
      · rfl).answer q _ _
  · exact k.refuse q _

/-! ### The store after the load -/

theorem Kept.writeBegin {s : State} (k : Kept s) : Result.Gives Kept (execWriteBegin s) := by
  unfold execWriteBegin
  split
  · next h _ => exact gives_next (k.beginWrite (by simp [State.loading, h]))
  · exact gives_next k

/-- A store controller written outside LOADING, which it does not enter. -/
theorem Kept.putStore {s : State} (k : Kept s) (x : Store) (n : Nonvolatile) (before : s.loading = false)
    (after : x.state ≠ .loading) : Kept { s with store := x, nonvolatile := n } := by
  have idle : State.loading { s with store := x, nonvolatile := n } = false := by simp [State.loading]
  exact k.of_eq (by unfold State.outer; rw [idle, before]) rfl

theorem Kept.writeCompletion {s : State} (k : Kept s) (ok : Bool) : Result.Gives Kept (execWriteCompletion ok s) := by
  unfold execWriteCompletion
  split
  · next snapshot h =>
    have busy : s.loading = false := by simp [State.loading, h]
    unfold State.completeWrite
    refine gives_next (Kept.setFlagBoth ?_ .store)
    split
    · exact k.putStore _ _ busy nofun
    · exact k.putStore _ _ busy nofun
  · exact gives_next k

theorem Kept.storeCommit {s : State} (k : Kept s) (q : PortId) : Result.Gives Kept (execStoreCommit q s) := by
  refine gives_next (k.transact q ?_)
  split
  · next h _ => exact (k.beginWrite (by simp [State.loading, h])).answer q _ _
  · next h _ =>
    exact (k.putStore { s.store with state := .pending } s.nonvolatile (by simp [State.loading, h]) nofun).answer q _ _
  · exact k.refuse q _

end Sys2Proof

/-! ## Vehicle-state items, configuration and profiles keep the laws -/

namespace Sys2Proof
open Machine Safety
open Machine.Result (gives_next)

theorem Kept.targetChange {s : State} (k : Kept s) (f : Fin 10 → Bool) : Kept (s.targetChange f) :=
  k.of_rest (s.targetChange_rest f) (k.wheels.targetChange f)

theorem Kept.takeExpiries {s : State} (k : Kept s) : Kept s.takeExpiries :=
  ((k.of_rest s.expireDue_rest k.wheels.expireDue).noteWheels s).evaluate

theorem Kept.vehicleTaken {s : State} (k : Kept s) (q : PortId) (item : Nat) (value : Half) :
    Kept (s.vehicleTaken q item value) := (k.setFlag _ .vehicle).answer q _ _

/-! ### Load and body -/

theorem Kept.setVehicleLoad {s : State} (k : Kept s) (q : PortId) (value : Half) :
    Result.Gives Kept (execSetVehicleLoad q value s) := by
  refine gives_next (k.transact q ?_)
  split
  · exact k.refuse q _
  · next x _ =>
    have written := k.of_eq (t := { s with vehicle := { s.vehicle with load := x, loadWriter := some q } }) rfl rfl
    exact ((written.targetChange _).noteWheels _).evaluate.vehicleTaken q _ _

theorem Kept.permitBodyWrite {s : State} (k : Kept s) (b : BodyState) : Kept (s.permitBodyWrite b) := by
  unfold State.permitBodyWrite
  split
  · exact k.evaluate
  · exact k.of_eq (State.putPermit_outer _ _) (State.putPermit_inner _ _)

theorem Kept.setVehicleBody {s : State} (k : Kept s) (q : PortId) (value : Half) :
    Result.Gives Kept (execSetVehicleBody q value s) := by
  refine gives_next (k.transact q ?_)
  split
  · exact k.refuse q _
  · next x _ =>
    have written := k.of_eq (t := { s with vehicle := { s.vehicle with body := x, bodyWriter := some q } }) rfl rfl
    exact (written.permitBodyWrite _).vehicleTaken q _ _

/-! ### Trailer -/

/-- The trailer item alone written. -/
def Machine.State.withTrailer (s : State) (q : PortId) (x : TrailerState) : State :=
  { s with vehicle := { s.vehicle with trailer := x, trailerWriter := some q } }

theorem rangeLaw_withTrailer {s : State} (h : RangeLaw s) (q : PortId) (x : TrailerState) : RangeLaw (s.withTrailer q x) :=
  { h with }

theorem liftLaw_withTrailer {s : State} (h : LiftLaw s) (q : PortId) (x : TrailerState) : LiftLaw (s.withTrailer q x) :=
  { h with }

theorem sessionLaw_withTrailer {s : State} (h : SessionLaw s) (q : PortId) (x : TrailerState)
    (away : ∀ l, s.learn.session = some l → s.rangeHasTrailer l.range = true → x = .present) :
    SessionLaw (s.withTrailer q x) :=
  { h with trailer := away }

theorem WheelLaws.withTrailer {off : Pos → Bool} {s : State} (h : WheelLaws off s) (q : PortId) (x : TrailerState) :
    WheelLaws off (s.withTrailer q x) := h.of_inner rfl

/-- The trailer arrives (R148). -/
theorem Kept.trailerArrives {s : State} (k : Kept s) (q : PortId) : Kept (s.withTrailer q .present).attachTrailer := by
  have outer : OuterLaws (s.withTrailer q .present) :=
    ⟨rangeLaw_withTrailer k.outer.range q _, liftLaw_withTrailer k.outer.lift q _,
      sessionLaw_withTrailer k.outer.session q _ fun _ _ _ => rfl⟩
  have attached := (k.wheels.withTrailer q .present).attachEach (off' := (s.withTrailer q .present).detachedSlot) allPos
    fun p hp => absurd (mem_allPos p) hp
  have rest := State.attachTrailer_rest (s.withTrailer q .present)
  exact ⟨outer.of_outer (State.outer_of_mapless (State.mapless_of_rest rest)),
    by rw [State.detachedSlot_of_rest rest]; exact attached⟩

/-- What is detached when the trailer leaves. -/
theorem Machine.State.withTrailer_detachedSlot (s : State) (q : PortId) (p : Pos) :
    (s.withTrailer q .absent).detachedSlot p = ((s.axle p.axle).unit == .trailer) := by
  simp [State.withTrailer, State.detachedSlot, State.axle]

/-- The trailer leaves, and with it a session with trailer axles (R138, R148). -/
theorem Kept.trailerLeaves {s : State} (k : Kept s) (q : PortId) (b : State) :
    Kept (b.noteWheels (s.withTrailer q .absent).detachTrailer).cancelTrailerSession := by
  have range := rangeLaw_withTrailer k.outer.range q .absent
  have lift := liftLaw_withTrailer k.outer.lift q .absent
  have detached : WheelLaws (s.withTrailer q .absent).detachedSlot (s.withTrailer q .absent).detachTrailer :=
    (k.wheels.withTrailer q .absent).detachAll _
      (fun p hp => by
        rw [State.withTrailer_detachedSlot]
        have off := (k.wheels.sound p).detached hp
        simp only [State.detachedSlot, Bool.and_eq_true] at off
        exact off.1)
      (fun p hp => by
        simp only [List.mem_filter, Bool.and_eq_true] at hp
        rw [State.withTrailer_detachedSlot]
        exact hp.2.2)
  have rest : (b.noteWheels (s.withTrailer q .absent).detachTrailer).rest = (s.withTrailer q .absent).rest := by simp
  generalize hu : b.noteWheels (s.withTrailer q .absent).detachTrailer = u at rest
  have wheels : WheelLaws (s.withTrailer q .absent).detachedSlot u := detached.of_inner (by rw [← hu]; simp)
  have off := State.detachedSlot_of_rest rest
  have outer := State.outer_of_mapless (State.mapless_of_rest rest)
  have same : u.learn = s.learn := (congrArg State.learn rest :)
  have ended : Kept (u.endSession .cancelled) := by
    have none : OuterLaws { s.withTrailer q .absent with learn := ⟨none, .none⟩ } :=
      ⟨{ range with }, { lift with }, sessionLaw_of_none rfl⟩
    refine ⟨none.of_outer ?_, ?_⟩
    · exact (congrArg (fun x : State => { x with learn := ⟨Option.none, .none⟩ }) outer :)
    · show WheelLaws u.detachedSlot _
      rw [off]
      exact wheels.of_inner rfl
  have stays (away : ∀ l, s.learn.session = some l → s.rangeHasTrailer l.range = false) : Kept u := by
    have session := sessionLaw_withTrailer k.outer.session q .absent fun l hl ht => by rw [away l hl] at ht; cases ht
    exact ⟨(OuterLaws.mk range lift session).of_outer outer, by rw [off]; exact wheels⟩
  have trailers : ∀ r, u.rangeHasTrailer r = s.rangeHasTrailer r := fun r => by
    simp only [State.rangeHasTrailer, State.axle_of_rest rest]
    rfl
  unfold State.cancelTrailerSession
  rw [same]
  split
  · next l hl =>
    split
    · exact ended
    · next ht =>
      refine stays fun l' hl' => ?_
      rw [hl] at hl'
      cases hl'
      rw [← trailers]
      simpa using ht
  · next hl => exact stays fun l' hl' => by rw [hl] at hl'; cases hl'

theorem Kept.writeTrailer {s : State} (k : Kept s) (q : PortId) (x : TrailerState) : Kept (s.writeTrailer q x) := by
  have unchanged (h : s.vehicle.trailer = x) : Kept (s.withTrailer q x) :=
    k.of_eq (by subst h; rfl) rfl
  unfold State.writeTrailer
  refine Kept.evaluate ?_
  dsimp only
  cases h : s.vehicle.trailer <;> cases x
  · exact unchanged h
  · exact (k.trailerArrives q).noteWheels _
  · exact k.trailerLeaves q _
  · exact unchanged h

theorem Kept.setVehicleTrailer {s : State} (k : Kept s) (q : PortId) (value : Half) :
    Result.Gives Kept (execSetVehicleTrailer q value s) := by
  refine gives_next (k.transact q ?_)
  split
  · exact k.refuse q _
  · exact (k.writeTrailer q _).vehicleTaken q _ _

/-! ### Motion, lifted set, ambient -/

theorem Kept.setVehicleMotion {s : State} (k : Kept s) (q : PortId) (value : Half) :
    Result.Gives Kept (execSetVehicleMotion q value s) := by
  refine gives_next (k.transact q ?_)
  split
  · exact k.refuse q _
  · next x _ =>
    have written := k.of_eq (t := { s with vehicle := { s.vehicle with motion := x, motionWriter := some q } }) rfl rfl
    exact written.takeExpiries.vehicleTaken q _ _

theorem Machine.State.admittedLifts_getLsbD (s : State) (named : BitVec 10) (a : Fin 10) :
    (s.admittedLifts named).getLsbD a.val = (named.getLsbD a.val && (s.axle a).present && (s.axle a).liftCapable) := by
  simp [State.admittedLifts]

/-- A lifted set written with axles that are present and lift-capable (R144, R145). -/
theorem Kept.putLifted {s : State} (k : Kept s) (x : BitVec 10) (w : Option PortId)
    (h : ∀ a : Fin 10, x.getLsbD a.val = true → (s.axle a).present = true ∧ (s.axle a).liftCapable = true) :
    Kept { s with vehicle := { s.vehicle with lifted := x, liftedWriter := w } } where
  outer := ⟨{ k.outer.range with }, { k.outer.lift with admitted := h }, { k.outer.session with }⟩
  wheels := k.wheels.of_inner rfl

theorem Kept.setVehicleLiftedSet {s : State} (k : Kept s) (q : PortId) (value : Half) :
    Result.Gives Kept (execSetVehicleLiftedSet q value s) := by
  refine gives_next (k.transact q ?_)
  split
  · exact k.refuse q _
  · next named _ =>
    have written := k.putLifted (s.admittedLifts named) (some q) fun a ha => by
      rw [State.admittedLifts_getLsbD] at ha
      simp only [Bool.and_eq_true] at ha
      exact ⟨ha.1.2, ha.2⟩
    refine Kept.vehicleTaken ?_ q _ _
    unfold State.writeLifted
    dsimp only
    split
    · exact written.evaluate
    · exact written.takeExpiries

/-- An ambient in its range (R144). -/
theorem Kept.putAmbient {s : State} (k : Kept s) (x : Int) (w : Option PortId) (h : 500 ≤ x ∧ x ≤ 1100) :
    Kept { s with vehicle := { s.vehicle with ambient := x, ambientWriter := w } } where
  outer := ⟨{ k.outer.range with ambient := h }, { k.outer.lift with }, { k.outer.session with }⟩
  wheels := k.wheels.of_inner rfl

theorem clampAmbient_range (value : Half) : 500 ≤ clampAmbient value ∧ clampAmbient value ≤ 1100 := by
  unfold clampAmbient
  exact clampInt_range (by omega) _

theorem Kept.setVehicleAmbient {s : State} (k : Kept s) (q : PortId) (value : Half) :
    Result.Gives Kept (execSetVehicleAmbient q value s) :=
  gives_next (k.transact q ((k.putAmbient _ (some q) (clampAmbient_range value)).vehicleTaken q _ _))

/-! ### Configuration -/

theorem configInRange_write {c : ConfigItems} (h : ConfigInRange c) (i : ConfigItem) (v : BitVec 32) :
    ConfigInRange (c.write i v) := by
  cases i
  case movingLimit => exact { h with moving := clampInt_range (by decide) _ }
  case stoppedLimit => exact { h with stopped := clampInt_range (by decide) _ }
  case referenceTemp => exact { h with reference := clampInt_range (by decide) _ }
  case pattern => exact { h with }
  case mask => exact { h with }
  case rssiFloor => exact { h with floor := clampInt_range (by decide) _ }
  case learnTimeout => exact { h with timeout := clampInt_range (by decide) _ }
  case supplyThreshold => exact { h with threshold := clampInt_range (by decide) _ }

theorem Kept.expireTimer {s : State} (k : Kept s) : Kept s.expireTimer := by
  unfold State.expireTimer
  split
  · exact (k.endSession .timedOut)
  · exact k

theorem Kept.configEffects {s : State} (k : Kept s) (i : ConfigItem) : Kept (s.configEffects i) := by
  cases i
  case movingLimit => exact k.takeExpiries
  case stoppedLimit => exact k.takeExpiries
  case learnTimeout => exact k.expireTimer
  all_goals exact k

/-- Configuration items in their ranges (R151). -/
theorem Kept.putConfig {s : State} (k : Kept s) (c : ConfigItems) (g : Generation) (h : ConfigInRange c) :
    Kept { s with config := c, generation := g } where
  outer := ⟨{ k.outer.range with config := h }, { k.outer.lift with }, { k.outer.session with }⟩
  wheels := k.wheels.of_inner rfl

theorem Kept.setConfig {s : State} (k : Kept s) (q : PortId) (item : Byte) (value : BitVec 32) :
    Result.Gives Kept (execSetConfig q item value s) := by
  refine gives_next (k.unlessLoading q fun _ => ?_)
  split
  · exact k.refuse q _
  · next i _ =>
    have written := k.putConfig (s.config.write i value) (s.generation + 1) (configInRange_write k.outer.range.config i value)
    exact ((written.setFlagBoth .image).configEffects i).answer q _ _

/-! ### Profiles -/

theorem profileInRange_setField {p : Profile} (h : ProfileInRange p) (f : Fin 11) (v : Int) :
    ProfileInRange (p.setField f (clampField f v)) := by
  intro g
  by_cases e : f = g
  · subst e
    have ordered : (fieldRange f).1 ≤ (fieldRange f).2 := by revert f; decide
    simpa [Profile.setField, clampField] using clampInt_range ordered v
  · have ne : f.val ≠ g.val := fun e' => e (Fin.ext e')
    simpa [Profile.setField, ne] using h g

theorem Kept.setStaging {s : State} (k : Kept s) (q : PortId) (g : Staging) (h : ProfileInRange g.copy) :
    Kept (s.setStaging q (some g)) :=
  k.setPort q _ fun g' hg => by cases hg; exact h

theorem Kept.loadStaging {s : State} (k : Kept s) (q : PortId) (n : Fin 4) (f : Fin 11) : Kept (s.loadStaging q n f) :=
  k.setStaging q _ (k.outer.range.profiles n)

theorem Kept.profileSelect {s : State} (k : Kept s) (q : PortId) (n f : Byte) :
    Result.Gives Kept (execProfileSelect q n f s) := by
  refine gives_next (k.unlessLoading q fun _ => ?_)
  split
  · exact (k.loadStaging q _ _).answer q _ _
  · exact k.refuse q _

/-- A profile replaced by one in range that passes the commit checks (R65, R66). -/
theorem Kept.putProfile {s : State} (k : Kept s) (n : Fin 4) (c : Profile) (g : Generation) (h : ProfileInRange c)
    (checks : c.passesChecks = true) :
    Kept { s with profiles := s.profiles.set n.val c n.isLt, generation := g } where
  outer := by
    have held (f : Fin 4) : (s.profiles.set n.val c n.isLt)[f] = if n = f then c else s.profiles[f] := by
      simp only [Fin.getElem_fin, Vector.getElem_set, Fin.ext_iff]
    refine ⟨{ k.outer.range with profiles := fun f => ?_, checks := fun f => ?_ }, { k.outer.lift with }, { k.outer.session with }⟩
    · show ProfileInRange (s.profiles.set n.val c n.isLt)[f]
      rw [held]
      split
      · exact h
      · exact k.outer.range.profiles f
    · show (s.profiles.set n.val c n.isLt)[f].passesChecks = true
      rw [held]
      split
      · exact checks
      · exact k.outer.range.checks f
  wheels := k.wheels.of_inner rfl

theorem Kept.commitProfile {s : State} (k : Kept s) (n : Fin 4) (c : Profile) (h : ProfileInRange c)
    (checks : c.passesChecks = true) : Kept (s.commitProfile n c) :=
  ((((k.putProfile n c (s.generation + 1) h checks).setFlagBoth .image).targetChange _).noteWheels _).evaluate

theorem Kept.writeStaged {s : State} (k : Kept s) (q : PortId) (g : Staging) (h : ProfileInRange g.copy) (v : Int) :
    Kept (s.writeStaged q g v) := by
  have copy := profileInRange_setField h g.field v
  unfold State.writeStaged
  dsimp only
  split
  · exact (k.setStaging q ⟨_, _, _⟩ copy).answer q _ _
  · split
    · next checks => exact ((k.commitProfile _ _ copy checks).loadStaging q _ _).answer q _ _
    · exact (k.setStaging q ⟨_, _, _⟩ copy).answer q _ _

theorem Kept.profileWrite {s : State} (k : Kept s) (q : PortId) (value : Half) :
    Result.Gives Kept (execProfileWrite q value s) := by
  refine gives_next (k.unlessLoading q fun _ => ?_)
  split
  · exact k.refuse q _
  · next g hg => exact k.writeStaged q g (k.staging q g hg) _

end Sys2Proof

/-! ## The learn sequencer and the taking of entries keep the laws -/

namespace Sys2Proof
open Machine Safety
open Machine.Result (gives_next)

/-! ### Placing an ID -/

/-- An ID that the lookup does not find, or finds at p, is at no other slot (R6, R7). -/
theorem Safety.MapLaw.alone {s : State} (h : MapLaw s) {id : SensorId} (hv : validId id = true) {p : Pos}
    (free : s.lookup id = none ∨ s.lookup id = some p) (q : Pos) (hq : s.slotId q = some id) : q = p := by
  rcases free with none | some
  · rcases State.lookup_eq_none.1 none with bad | nowhere
    · simp [hv] at bad
    · exact absurd hq (nowhere q)
  · exact h.unique q p id hq (State.lookup_some some).2

theorem Kept.freshAt {s : State} (k : Kept s) {p : Pos} {id : SensorId} (hv : validId id = true) (hp : s.validPos p = true)
    (alone : ∀ q, s.slotId q = some id → q = p) : Kept (s.freshAt p id) :=
  k.of_mapless (s.freshAt_mapless p id) (k.wheels.freshAt hv hp alone)

theorem Kept.emptyAt {s : State} (k : Kept s) (p : Pos) : Kept (s.emptyAt p) :=
  k.of_mapless (s.emptyAt_mapless p) (k.wheels.emptyAt p)

/-- A staging entry that can be applied: a valid slot, and a valid ID if any (R131). -/
def Machine.State.CanPlace (s : State) (e : Pos × Option SensorId) : Prop :=
  s.validPos e.1 = true ∧ ∀ id, e.2 = some id → validId id = true

theorem Machine.State.placeStaged_mapless (s : State) (e : Pos × Option SensorId) : (s.placeStaged e).mapless = s.mapless := by
  unfold State.placeStaged
  split
  · rfl
  · split
    · split
      · exact s.freshAt_mapless _ _
      · exact (State.freshAt_mapless _ _ _).trans (s.emptyAt_mapless _)
    · exact s.freshAt_mapless _ _

theorem Kept.placeStaged {s : State} (k : Kept s) (e : Pos × Option SensorId) (h : s.CanPlace e) : Kept (s.placeStaged e) := by
  obtain ⟨valid, good⟩ := h
  unfold State.placeStaged
  split
  · exact k
  · next id hid =>
    split
    · next q hq =>
      split
      · next same => exact k.freshAt (good id hid) valid (k.wheels.map.alone (good id hid) (.inr (same ▸ hq)))
      · refine (k.emptyAt q).freshAt (good id hid) ?_ fun r hr => ?_
        · rw [State.validPos_of_mapless (s.emptyAt_mapless q)]; exact valid
        · rw [State.emptyAt_eq, State.emptyAll_slotId] at hr
          split at hr
          · cases hr
          · next ne => exact absurd (List.mem_singleton.2 (k.wheels.map.alone (good id hid) (.inr hq) r hr)) ne
    · next hq => exact k.freshAt (good id hid) valid (k.wheels.map.alone (good id hid) (.inl hq))

theorem Kept.placeAll {s : State} (k : Kept s) (staging : List (Pos × Option SensorId)) (h : ∀ e ∈ staging, s.CanPlace e) :
    Kept (staging.foldl State.placeStaged s) := by
  induction staging generalizing s with
  | nil => exact k
  | cons e rest ih =>
    refine ih (k.placeStaged e (h e List.mem_cons_self)) fun e' he' => ?_
    obtain ⟨valid, good⟩ := h e' (List.mem_cons_of_mem _ he')
    exact ⟨by rw [State.validPos_of_mapless (s.placeStaged_mapless e)]; exact valid, good⟩

theorem Kept.applyResult {s : State} (k : Kept s) (staging : List (Pos × Option SensorId)) (h : ∀ e ∈ staging, s.CanPlace e) :
    Kept (s.applyResult staging) := by
  unfold State.applyResult
  dsimp only
  exact (k.placeAll staging h).of_eq (by simp) (by simp)

/-! ### A session -/

theorem Machine.State.mem_positionList {s : State} {r : AxleRange} {p : Pos} :
    p ∈ s.positionList r ↔ r.covers p.axle.val = true ∧ s.validPos p = true := by
  simp [State.positionList]

/-- What a session has staged can be applied (R139). -/
theorem Safety.SessionLaw.canPlace {s : State} (h : SessionLaw s) {l : Session} (hl : s.learn.session = some l) :
    ∀ e ∈ l.staging, s.CanPlace e := by
  intro e he
  have mem : e.1 ∈ l.positions.take l.cursor := by
    rw [← h.staged l hl]
    exact List.mem_map_of_mem he
  have listed := List.mem_of_mem_take mem
  rw [h.positions l hl] at listed
  exact ⟨(State.mem_positionList.1 listed).2, h.ids l hl e he⟩

/-- A session with one more entry staged at the cursor. -/
def Machine.Session.staged (l : Session) (p : Pos) (id : Option SensorId) (now : Uptime) : Session :=
  { l with cursor := l.cursor + 1, staging := l.staging ++ [(p, id)], timerStart := now }

/-- A session that advances keeps its laws if what it stages is valid and not staged yet (R131 to R133). -/
theorem Safety.SessionLaw.advance {s : State} (h : SessionLaw s) {l : Session} (hl : s.learn.session = some l) {p : Pos}
    (hp : l.here = some p) {id : Option SensorId} (good : ∀ i, id = some i → validId i = true)
    (new : ∀ i, id = some i → ∀ e ∈ l.staging, e.2 ≠ some i) (now : Uptime) (o : LearnOutcome)
    (more : (l.staged p id now).cursor < l.positions.length) :
    SessionLaw { s with learn := ⟨some (l.staged p id now), o⟩ } := by
  refine ⟨?_, ?_, ?_, ?_, ?_, ?_, ?_, ?_⟩
  · rintro _ ⟨⟩; exact h.range l hl
  · rintro _ ⟨⟩; exact h.positions l hl
  · rintro _ ⟨⟩; exact more
  · rintro _ ⟨⟩
    show (l.staging ++ [(p, id)]).map Prod.fst = l.positions.take (l.cursor + 1)
    unfold Session.here at hp
    rw [List.map_append, h.staged l hl, List.take_add_one, hp]
    rfl
  · rintro _ ⟨⟩ e he
    rcases List.mem_append.1 he with old | last
    · exact h.ids l hl e old
    · rw [List.mem_singleton.1 last]; exact good
  · rintro _ ⟨⟩
    show ((l.staging ++ [(p, id)]).filterMap Prod.snd).Nodup
    cases id with
    | none => simpa using h.unique l hl
    | some i =>
      have fresh : i ∉ l.staging.filterMap Prod.snd := by
        intro m
        obtain ⟨e, he, hi⟩ := List.mem_filterMap.1 m
        exact new i rfl e he hi
      rw [List.filterMap_append, List.nodup_append]
      refine ⟨h.unique l hl, by simp, fun x hx y hy => ?_⟩
      have : y = i := by simpa using hy
      rintro rfl
      exact fresh (this ▸ hx)
  · rintro _ ⟨⟩; exact h.trailer l hl
  · intro _; exact h.loaded (by simp [hl])

theorem Kept.advance {s : State} (k : Kept s) {l : Session} (hl : s.learn.session = some l) {id : Option SensorId}
    (good : ∀ i, id = some i → validId i = true) (new : ∀ i, id = some i → ∀ e ∈ l.staging, e.2 ≠ some i) :
    Kept (s.advance l id) := by
  have old := k.outer.session.canPlace hl
  unfold State.advance
  split
  · exact (k.applyResult _ old).endSession _
  · next p hp =>
    dsimp only
    split
    · next more => exact (k.putLearn _ (k.outer.session.advance hl hp good new s.uptime _ more)).setFlagBoth .learn
    · refine (k.applyResult _ fun e he => ?_).endSession _
      rcases List.mem_append.1 he with before | last
      · exact old e before
      · have listed := List.mem_of_getElem? hp
        rw [k.outer.session.positions l hl] at listed
        rw [List.mem_singleton.1 last]
        exact ⟨(State.mem_positionList.1 listed).2, good⟩

theorem Kept.handOver {s : State} (k : Kept s) (e : QueueEntry) (hid : validId e.telegram.id = true) : Kept (s.handOver e) := by
  unfold State.handOver
  split
  · next l hl =>
    split
    · next take =>
      refine k.advance hl (fun i hi => by cases hi; exact hid) fun i hi x hx => ?_
      cases hi
      simp only [Bool.and_eq_true] at take
      have stages := take.2
      unfold State.stages at stages
      split at stages
      · cases stages
      · simp only [Bool.and_eq_true, Bool.not_eq_true', List.any_eq_false, beq_iff_eq] at stages
        exact stages.1.2 x hx
    · exact k
  · exact k

theorem Kept.learnSkip {s : State} (k : Kept s) (q : PortId) : Result.Gives Kept (execLearnSkip q s) := by
  refine gives_next (k.unlessLoading q fun _ => ?_)
  split
  · exact k.refuse q _
  · next l hl =>
    have skipped := k.advance hl (id := none) (fun _ h => by cases h) (fun _ h => by cases h)
    dsimp only
    refine Kept.answer ?_ q _ _
    split
    · exact skipped.evaluate
    · exact skipped

theorem Kept.learnFinish {s : State} (k : Kept s) (q : PortId) : Result.Gives Kept (execLearnFinish q s) := by
  refine gives_next (k.unlessLoading q fun _ => ?_)
  split
  · exact k.refuse q _
  · next l hl => exact (((k.applyResult _ (k.outer.session.canPlace hl)).endSession _).evaluate).answer q _ _

theorem Kept.learnAbort {s : State} (k : Kept s) (q : PortId) : Result.Gives Kept (execLearnAbort q s) := by
  refine gives_next (k.unlessLoading q fun _ => ?_)
  split
  · exact k.refuse q _
  · exact (k.endSession _).answer q _ _

/-- LEARN_START starts a session that has its laws (R128 to R130). -/
theorem sessionLaw_start {s : State} {r : AxleRange} (loaded : s.loading = false) (range : r.lo ≤ r.hi ∧ r.hi ≤ 9)
    {a : Fin 10} (covers : r.covers a.val = true) (present : (s.axle a).present = true)
    (trailer : s.rangeHasTrailer r = true → s.vehicle.trailer = .present) (now : Uptime) (o : LearnOutcome) :
    SessionLaw { s with learn := ⟨some ⟨r, s.positionList r, 0, [], now⟩, o⟩ } := by
  have listed : (⟨a, 0⟩ : Pos) ∈ s.positionList r :=
    State.mem_positionList.2 ⟨covers, by simp [State.validPos, AxleRecord.validSlot, present]⟩
  refine ⟨?_, ?_, ?_, ?_, ?_, ?_, ?_, ?_⟩
  · rintro _ ⟨⟩; exact range
  · rintro _ ⟨⟩; rfl
  · rintro _ ⟨⟩; exact List.length_pos_of_mem listed
  · rintro _ ⟨⟩; rfl
  · rintro _ ⟨⟩ e he; exact absurd he List.not_mem_nil
  · rintro _ ⟨⟩; exact List.nodup_nil
  · rintro _ ⟨⟩; exact trailer
  · intro _; exact loaded

theorem Kept.learnStart {s : State} (k : Kept s) (q : PortId) (g : Generation) (first last : Byte) :
    Result.Gives Kept (execLearnStart q g first last s) := by
  refine gives_next (k.transact q ?_)
  split
  · exact k.refuse q _
  · next passes =>
    have checks := (firstFailure_eq_none _).1 passes
    simp only [List.forall_mem_cons, Bool.and_eq_true, decide_eq_true_eq, Bool.not_eq_true', List.any_eq_true,
      Bool.or_eq_true, beq_iff_eq] at checks
    obtain ⟨loaded, _, range, _, ⟨a, _, covers, present⟩, _, trailer, _⟩ := checks
    refine Kept.answer (Kept.setFlagBoth (k.putLearn _ (sessionLaw_start loaded range covers present (fun h => ?_) _ _)) _) q _ _
    rcases trailer with no | yes
    · rw [no] at h; cases h
    · exact yes

/-! ### Entries and expiries -/

theorem Kept.takeEntry {s : State} (k : Kept s) (e : QueueEntry) (hid : validId e.telegram.id = true) : Kept (s.takeEntry e) := by
  have reset : Kept (if e.lost then s.resetCounts else s) := by
    split
    · exact k.of_rest s.resetCounts_rest k.wheels.resetCounts
    · exact k
  unfold State.takeEntry
  dsimp only
  generalize (if e.lost then s.resetCounts else s) = u at reset
  have read := reset.of_rest (u.readEntry_rest e) (reset.wheels.readEntry ⟨reset.outer.range.ambient, reset.outer.range.config.reference⟩ e)
  have done := (read.handOver e hid).noteWheels u
  split
  · exact done.evaluate
  · exact done

theorem Kept.entryTaken {s : State} (k : Kept s) (h : ReceiveLaw s) : Result.Gives Kept (execEntryTaken s) := by
  unfold execEntryTaken
  split
  · exact gives_next k
  · next e rest hq =>
    refine gives_next (Kept.takeEntry (k.of_eq (t := { s with queue := rest }) rfl rfl) e (h.ids e ?_))
    rw [hq]
    exact List.mem_cons_self

theorem Kept.silenceExpiry {s : State} (k : Kept s) (a : Fin 10) (t : Fin 4) : Result.Gives Kept (execSilenceExpiry a t s) := by
  unfold execSilenceExpiry
  split
  · next due =>
    simp only [State.expiryDue, Bool.and_eq_true] at due
    exact gives_next ((k.of_rest (s.expireAt_rest _) (k.wheels.expireAt due.1.1)).noteWheels s).evaluate
  · exact gives_next k

end Sys2Proof

/-! ## Map edits keep the laws -/

namespace Sys2Proof
open Machine Safety
open Machine.Result (gives_next)

/-! ### Edits of one slot -/

theorem Machine.State.validPosOf_valid {s : State} {a t : Byte} {p : Pos} (h : s.validPosOf a t = some p) :
    s.validPos p = true := by
  unfold State.validPosOf at h
  split at h
  · split at h
    · next hv => cases h; exact hv
    · cases h
  · cases h

theorem Kept.assign {s : State} (k : Kept s) {g : Generation} {p : Pos} {id : SensorId}
    (passes : s.assignFailure g p id = none) (hp : s.validPos p = true) : Kept (s.assign p id) := by
  unfold State.assign
  split
  · exact k.editTaken false
  · have checks := (firstFailure_eq_none _).1 passes
    simp only [List.forall_mem_cons, Bool.or_eq_true, beq_iff_eq, Option.isNone_iff_eq_none] at checks
    obtain ⟨valid, _, _, _, free, _⟩ := checks
    exact (k.freshAt valid hp (k.wheels.map.alone valid free)).editTaken true

theorem Kept.mapAssign {s : State} (k : Kept s) (q : PortId) (g : Generation) (a t : Byte) (id : SensorId) :
    Result.Gives Kept (execMapAssign q g a t id s) := by
  refine gives_next (k.unlessLoading q fun _ => ?_)
  split
  · exact k.refuse q _
  · next p hp =>
    split
    · exact k.refuse q _
    · next passes => exact (k.assign passes (State.validPosOf_valid hp)).answer q _ _

theorem Kept.mapRemove {s : State} (k : Kept s) (q : PortId) (g : Generation) (a t : Byte) :
    Result.Gives Kept (execMapRemove q g a t s) := by
  refine gives_next (k.unlessLoading q fun _ => ?_)
  split
  · exact k.refuse q _
  · next p _ =>
    split
    · exact k.refuse q _
    · refine Kept.answer ?_ q _ _
      unfold State.remove
      split
      · exact (k.emptyAt p).editTaken true
      · exact k.editTaken false

/-! ### Moves and the protect range -/

theorem moveOf_fits {a b c d e f g : Byte} {m : Move} (h : moveOf a b c d e f g = some m) : m.Fits := by
  unfold moveOf at h
  split at h
  · split at h
    · next fits =>
      cases h
      exact ⟨fits.1, fits.2.1, fits.2.2.1, fits.2.2.2⟩
    · cases h
  · cases h

theorem Machine.State.validPos_of_moveFailure {s : State} {g : Generation} {m : Move} (h : s.moveFailure g m = none) (p : Pos)
    (hp : s.movesAway m p = true) : s.validPos (m.destination p) = true := by
  have checks := (firstFailure_eq_none _).1 h
  simp only [List.forall_mem_cons] at checks
  obtain ⟨_, _, _, fit, _⟩ := checks
  have here : (!s.movesAway m p || s.validPos (m.destination p)) = true := (allPos_all _).1 fit p
  rw [hp] at here
  exact here

theorem Kept.mapMove {s : State} (k : Kept s) (q : PortId) (g : Generation) (a b c d e f n : Byte) :
    Result.Gives Kept (execMapMove q g a b c d e f n s) := by
  refine gives_next (k.unlessLoading q fun _ => ?_)
  split
  · exact k.refuse q _
  · next m hm =>
    split
    · exact k.refuse q _
    · next passes =>
      have moved := k.of_mapless (s.moved_mapless m) (k.wheels.moved (moveOf_fits hm) (State.validPos_of_moveFailure passes))
      exact (moved.editTaken _).answer q _ _

theorem protectOf_range {a b c : Byte} {r : Option AxleRange} (h : protectOf a b c = some r) :
    ∀ x, r = some x → x.lo ≤ x.hi ∧ x.hi ≤ 9 := by
  rintro x rfl
  unfold protectOf at h
  split at h
  · cases h
  · split at h
    · next range => cases h; exact range
    · cases h
  · cases h

theorem Kept.mapProtect {s : State} (k : Kept s) (q : PortId) (g : Generation) (a b c : Byte) :
    Result.Gives Kept (execMapProtect q g a b c s) := by
  refine gives_next (k.unlessLoading q fun _ => ?_)
  split
  · exact k.refuse q _
  · next r hr =>
    split
    · exact k.refuse q _
    · have written : Kept { s with protect := r, generation := s.generation + 1 } :=
        { outer := ⟨{ k.outer.range with protect := protectOf_range hr }, { k.outer.lift with }, { k.outer.session with }⟩
          wheels := k.wheels.of_inner rfl }
      exact (written.setFlagBoth .image).answer q _ _

/-! ### A new axle record -/

@[simp] theorem Machine.State.writeAxle_axle (s : State) (a b : Fin 10) (r : AxleRecord) :
    (s.writeAxle a r).axle b = if a = b then r else s.axle b := by
  simp only [State.writeAxle, State.axle, Fin.getElem_fin, Vector.getElem_set, Fin.ext_iff]

theorem Machine.State.mem_slotsLost {s : State} {a : Fin 10} {r : AxleRecord} {p : Pos} :
    p ∈ s.slotsLost a r ↔ p.axle = a ∧ s.validPos p = true ∧ r.validSlot p.slot = false := by
  simp [State.slotsLost]

/-- An axle that loses no inner slot though it was a present DUAL one is left so. -/
theorem Machine.AxleRecord.dual_of_validSlot {r : AxleRecord} {t : Fin 4} (inner : t = 1 ∨ t = 2) (h : r.validSlot t = true) :
    r.present = true ∧ r.kind = .dual := by
  rcases inner with rfl | rfl <;> simpa [AxleRecord.validSlot] using h

/-- IMBALANCE stays only where the axle stays a present DUAL one: otherwise the inner slots are lost (R20, R24). -/
theorem pairLaw_writeAxle {s : State} (h : PairLaw s) (a : Fin 10) (r : AxleRecord) {p : Pos} (hp : p.axle = a)
    (active : (s.emptyAll (s.slotsLost a r)).active p .imbalance = true) : r.present = true ∧ r.kind = .dual := by
  have cleared : (s.clearRecords (s.slotsLost a r)).active p .imbalance = true := by
    unfold State.active at active ⊢
    rw [State.emptyAll_wheel] at active
    split at active
    · simp [WheelRecord.empty] at active
    · exact active
  rw [State.clearRecords_imbalance h] at cleared
  simp only [Bool.and_eq_true, Bool.not_eq_true', decide_eq_false_iff_not, not_or] at cleared
  obtain ⟨before, low, high⟩ := cleared
  obtain ⟨present, dual⟩ := h.dual p before
  have keeps (q : Pos) (hq : q.axle = p.axle) (lost : q ∉ s.slotsLost a r) : r.validSlot q.slot = true := by
    have valid : s.validPos q = true := by simp [State.validPos, AxleRecord.validSlot, hq, present, dual]
    by_contra bad
    exact lost (State.mem_slotsLost.2 ⟨hq.trans hp, valid, by simpa using bad⟩)
  have lowSlot := keeps p.pairLow rfl low
  have highSlot := keeps p.pairHigh rfl high
  by_cases inner : p.pairLow.slot = 2
  · exact AxleRecord.dual_of_validSlot (.inr inner) lowSlot
  · refine AxleRecord.dual_of_validSlot (.inl (Fin.ext ?_)) highSlot
    have := congrArg Fin.val (a₁ := p.pairLow.slot) (a₂ := 2)
    simp only [Pos.pairLow, Pos.pairHigh, Fin.ext_iff] at inner ⊢
    omega

theorem WheelLaws.writeAxle {off : Pos → Bool} {s : State} (h : WheelLaws off s) (a : Fin 10) (r : AxleRecord) :
    WheelLaws off ((s.emptyAll (s.slotsLost a r)).writeAxle a r) := by
  have emptied := h.emptyAll (s.slotsLost a r)
  have axle := State.axle_of_mapless (s.emptyAll_mapless (s.slotsLost a r))
  have map : MapLaw ((s.emptyAll (s.slotsLost a r)).writeAxle a r) := by
    refine ⟨fun p id hp => ?_, emptied.map.unique⟩
    have held : (s.emptyAll (s.slotsLost a r)).slotId p = some id := hp
    obtain ⟨good, valid⟩ := emptied.map.valid p id held
    refine ⟨good, ?_⟩
    rw [State.validPos_of_mapless (s.emptyAll_mapless _)] at valid
    unfold State.validPos
    rw [State.writeAxle_axle, axle]
    split
    · next ha =>
      rw [State.emptyAll_slotId] at held
      split at held
      · cases held
      · next stays =>
        by_contra bad
        exact stays (State.mem_slotsLost.2 ⟨ha.symm, valid, by simpa using bad⟩)
    · exact valid
  have pair : PairLaw ((s.emptyAll (s.slotsLost a r)).writeAxle a r) := by
    refine ⟨fun p hp => ?_, emptied.pair.live, emptied.pair.both⟩
    rw [State.writeAxle_axle]
    split
    · next ha => exact pairLaw_writeAxle h.pair a r ha.symm hp
    · exact emptied.pair.dual p hp
  exact ⟨map, emptied.sound, pair, { emptied.alert with }⟩

theorem Machine.State.unitChange_rest (s : State) (a : Fin 10) (old : AxleRecord) : (s.unitChange a old).rest = s.rest := by
  unfold State.unitChange
  split
  · split
    · exact s.detachAll_rest _
    · exact (State.atEach_same State.rest _ State.clearPair_rest _ _).trans
        (State.atEach_same State.rest _ State.attachAt_rest _ _)
  · rfl

/-- The records of an axle follow its unit while the trailer is ABSENT (R25). -/
theorem WheelLaws.unitChange {off : Pos → Bool} {s : State} (h : WheelLaws off s) (a : Fin 10) (old : AxleRecord)
    (elsewhere : ∀ p, p.axle ≠ a → off p = s.detachedSlot p)
    (there : ∀ p, p.axle = a → off p = (old.unit == .trailer && s.vehicle.trailer == .absent)) :
    WheelLaws s.detachedSlot (s.unitChange a old) := by
  have away (p : Pos) (hp : p.axle ≠ a) (hd : (s.wheel p).state = .detached) : s.detachedSlot p = true :=
    elsewhere p hp ▸ (h.sound p).detached hd
  unfold State.unitChange
  split
  · next change =>
    split
    · next unit =>
      have gone (p : Pos) (hp : p.axle = a) : s.detachedSlot p = true := by simp [State.detachedSlot, hp, unit, change.1]
      refine h.detachAll _ (fun p hd => ?_) fun p hp => gone p ((mem_axlePositions_iff p a).1 hp)
      by_cases hp : p.axle = a
      · exact gone p hp
      · exact away p hp hd
    · refine State.atEach_keeps (WheelLaws s.detachedSlot) _ (fun _ p ht => ht.clearPair p) _ _ (h.attachEach _ fun p hp hd => ?_)
      exact away p (fun e => hp ((mem_axlePositions_iff p a).2 e)) hd
  · next same =>
    refine h.widen fun p hd => ?_
    by_cases hp : p.axle = a
    · have was := (h.sound p).detached hd
      rw [there p hp] at was
      simp only [Bool.and_eq_true, beq_iff_eq, not_and, not_not] at was same
      have unit := same was.2
      simp [State.detachedSlot, hp, ← unit, was]
    · exact away p hp hd

/-! ### The lifted set under a new axle record -/

theorem Machine.State.dropLift_inner (s : State) (a : Fin 10) : (s.dropLift a).inner = s.inner := by
  unfold State.dropLift
  split <;> rfl

theorem Machine.State.dropLift_detachedSlot (s : State) (a : Fin 10) : (s.dropLift a).detachedSlot = s.detachedSlot := by
  unfold State.dropLift
  split <;> rfl

theorem Machine.State.dropLift_outer {s t : State} (h : t.outer = s.outer) (a : Fin 10) :
    (t.dropLift a).outer = (s.dropLift a).outer := by
  have axles : t.axles = s.axles := (congrArg State.axles h :)
  have lifted : t.vehicle.lifted = s.vehicle.lifted := (congrArg (fun x : State => x.vehicle.lifted) h :)
  have drops : (t.vehicle.lifted.getLsbD a.val && !((t.axle a).present && (t.axle a).liftCapable))
      = (s.vehicle.lifted.getLsbD a.val && !((s.axle a).present && (s.axle a).liftCapable)) := by
    simp only [State.axle, axles, lifted]
  unfold State.dropLift
  rw [drops]
  split
  · rw [State.setFlagBoth_outer, State.setFlagBoth_outer]
    exact (congrArg (fun x : State =>
      { x with vehicle := { x.vehicle with lifted := x.vehicle.lifted &&& ~~~BitVec.twoPow 10 a.val } }) h :)
  · exact h

/-- A protect range, profiles and the rest stay in range under a new axle record; the lifted set drops an axle that may
no longer be lifted, and a session elsewhere does not see it (R24, R128). -/
theorem OuterLaws.writeAxle {s : State} (h : OuterLaws s) (a : Fin 10) (r : AxleRecord) (loaded : s.loading = false)
    (free : s.sessionAxle a.val = false) : OuterLaws ((s.writeAxle a r).dropLift a) := by
  have outside (l : Session) (hl : s.learn.session = some l) : l.range.covers a.val = false := by
    simpa [State.sessionAxle, hl] using free
  have range : RangeLaw (s.writeAxle a r) := { h.range with }
  have session : SessionLaw (s.writeAxle a r) := by
    refine { h.session with positions := fun l hl => ?_, trailer := fun l hl ht => ?_ }
    · rw [h.session.positions l hl]
      refine List.filter_congr fun p _ => ?_
      by_cases hp : a = p.axle
      · rw [← hp, outside l hl]; rfl
      · simp [State.validPos, hp]
    · refine h.session.trailer l hl ?_
      simp only [State.rangeHasTrailer, List.any_eq_true] at ht ⊢
      obtain ⟨b, hb, covered⟩ := ht
      refine ⟨b, hb, ?_⟩
      by_cases e : a = b
      · subst e; simp [outside l hl] at covered
      · simpa [e] using covered
  unfold State.dropLift
  split
  · next drops =>
    refine OuterLaws.of_outer (s := { s.writeAxle a r with
      vehicle := { s.vehicle with lifted := s.vehicle.lifted &&& ~~~BitVec.twoPow 10 a.val } })
      ⟨{ range with }, ⟨fun b hb => ?_, fun l => ?_⟩, { session with }⟩ (State.setFlagBoth_outer _ _)
    · have ne : a ≠ b := by
        rintro rfl
        simp at hb
      have was : s.vehicle.lifted.getLsbD b.val = true := by
        simp only [BitVec.getLsbD_and, Bool.and_eq_true] at hb
        exact hb.1
      show ((s.writeAxle a r).axle b).present = true ∧ ((s.writeAxle a r).axle b).liftCapable = true
      rw [State.writeAxle_axle, if_neg ne]
      exact h.lift.admitted b was
    · exact absurd (loaded.symm.trans l) Bool.false_ne_true
  · next stays =>
    refine ⟨range, ⟨fun b hb => ?_, fun l => ?_⟩, session⟩
    · by_cases e : a = b
      · subst e
        have lifted : (s.writeAxle a r).vehicle.lifted.getLsbD a.val = true := hb
        rw [lifted] at stays
        simpa using stays
      · rw [State.writeAxle_axle, if_neg e]
        exact h.lift.admitted b hb
    · exact absurd (loaded.symm.trans l) Bool.false_ne_true

theorem Kept.setAxle {s : State} (k : Kept s) (a : Fin 10) (r : AxleRecord) (loaded : s.loading = false)
    (free : s.sessionAxle a.val = false) : Kept (s.setAxle a r) := by
  have wrote := k.wheels.writeAxle a r
  have mapless := s.emptyAll_mapless (s.slotsLost a r)
  have vehicle : ((s.emptyAll (s.slotsLost a r)).writeAxle a r).vehicle = s.vehicle := (State.vehicle_of_mapless mapless :)
  have outer : ((s.emptyAll (s.slotsLost a r)).writeAxle a r).outer = (s.writeAxle a r).outer :=
    (congrArg (fun x : State => x.writeAxle a r) (State.outer_of_mapless mapless) :)
  unfold State.setAxle
  dsimp only
  have changed := wrote.unitChange a (s.axle a)
    (fun p hp => by
      simp [State.detachedSlot, vehicle, Ne.symm hp, State.axle_of_mapless mapless])
    (fun p hp => by simp [State.detachedSlot, vehicle, hp])
  have rest := State.unitChange_rest ((s.emptyAll (s.slotsLost a r)).writeAxle a r) a (s.axle a)
  generalize ((s.emptyAll (s.slotsLost a r)).writeAxle a r).unitChange a (s.axle a) = u at changed rest
  have dropped : Kept (u.dropLift a) := by
    refine ⟨(k.outer.writeAxle a r loaded free).of_outer ?_, ?_⟩
    · exact State.dropLift_outer ((State.outer_of_mapless (State.mapless_of_rest rest)).trans outer) a
    · rw [State.dropLift_detachedSlot, State.detachedSlot_of_rest rest]
      exact changed.of_inner (u.dropLift_inner a)
  split
  · exact dropped.targetChange _
  · exact dropped

theorem Kept.mapSetAxle {s : State} (k : Kept s) (q : PortId) (g : Generation) (a b c d e f l : Byte) :
    Result.Gives Kept (execMapSetAxle q g a b c d e f l s) := by
  refine gives_next (k.unlessLoading q fun loaded => ?_)
  split
  · next axle r _ _ =>
    split
    · exact k.refuse q _
    · next passes =>
      have checks := (firstFailure_eq_none _).1 passes
      simp only [List.forall_mem_cons, Bool.not_eq_true'] at checks
      obtain ⟨_, _, free, _⟩ := checks
      exact ((k.setAxle axle r loaded free).editTaken _).answer q _ _
  · exact k.refuse q _

end Sys2Proof

/-! ## The load, and what every step keeps -/

namespace Sys2Proof
open Machine Safety
open Machine.Result (gives_next)

/-! ### The slot map a load takes (R8) -/

theorem Machine.Image.placedId_eq_some {i : Image} {p : Pos} {id : SensorId} :
    i.placedId p = some id ↔ i.slots[p.idx] = some id ∧ validId id = true ∧ (i.axles[p.axle]).loaded.validSlot p.slot = true := by
  unfold Image.placedId
  split
  · next held h => rw [h]; by_cases e : held = id <;> simp [e]
  · next h => simp [h]

/-- The slot that keeps an ID is the first in slot order that may hold it (R8, correction 5). -/
theorem Machine.Image.loadedId_eq_some {i : Image} {p : Pos} {id : SensorId} :
    i.loadedId p = some id ↔ i.placedId p = some id ∧ ∀ q, q.idx < p.idx → i.placedId q ≠ some id := by
  have first (x : SensorId) : allPos.any (fun q => decide (q.idx < p.idx) && i.placedId q == some x) = true
      ↔ ∃ q : Pos, q.idx < p.idx ∧ i.placedId q = some x := by simp
  unfold Image.loadedId
  split
  · next held h =>
    rw [h]
    by_cases e : held = id
    · subst e
      by_cases taken : ∃ q : Pos, q.idx < p.idx ∧ i.placedId q = some held
      · rw [if_pos ((first held).2 taken)]
        obtain ⟨q, earlier, same⟩ := taken
        simp only [reduceCtorEq, true_and, false_iff, not_forall]
        exact ⟨q, earlier, fun ne => ne same⟩
      · rw [if_neg (fun a => taken ((first held).1 a))]
        simp only [true_and, true_iff]
        exact fun q earlier same => taken ⟨q, earlier, same⟩
    · simp [e]
  · next h => simp [h]

@[simp] theorem Machine.State.takeImage_slotId (s : State) (i : Image) (p : Pos) : (s.takeImage i).slotId p = i.loadedId p := by
  simp [State.takeImage, State.slotId]

@[simp] theorem Machine.State.takeImage_axle (s : State) (i : Image) (a : Fin 10) :
    (s.takeImage i).axle a = (i.axles[a]).loaded := by
  simp [State.takeImage, State.axle]

@[simp] theorem Machine.State.takeDefaults_slotId (s : State) (p : Pos) : s.takeDefaults.slotId p = none := by
  simp [State.takeDefaults, State.slotId]

theorem mapLaw_takeImage (s : State) (i : Image) : MapLaw (s.takeImage i) where
  valid p id h := by
    rw [State.takeImage_slotId] at h
    obtain ⟨_, valid, fits⟩ := Image.placedId_eq_some.1 (Image.loadedId_eq_some.1 h).1
    exact ⟨valid, by simpa [State.validPos] using fits⟩
  unique p q id hp hq := by
    rw [State.takeImage_slotId] at hp hq
    obtain ⟨placedP, firstP⟩ := Image.loadedId_eq_some.1 hp
    obtain ⟨placedQ, firstQ⟩ := Image.loadedId_eq_some.1 hq
    rcases lt_trichotomy p.idx q.idx with before | same | after
    · exact absurd placedP (firstQ p before)
    · exact Pos.idx_inj same
    · exact absurd placedQ (firstP q after)

/-! ### The values a load takes (R61, R151) -/

theorem configInRange_clamped (c : ConfigItems) : ConfigInRange c.clamped where
  moving := clampInt_range (by decide) _
  stopped := clampInt_range (by decide) _
  reference := clampInt_range (by decide) _
  floor := clampInt_range (by decide) _
  timeout := clampInt_range (by decide) _
  threshold := clampInt_range (by decide) _

@[simp] theorem Machine.Profile.clamped_field (p : Profile) (f : Fin 11) : p.clamped[f] = clampField f p[f] := by
  simp [Profile.clamped]

theorem profileInRange_loaded (p : Profile) : ProfileInRange p.loaded := by
  unfold Profile.loaded
  split
  · intro f
    rw [Profile.clamped_field]
    exact clampInt_range (by revert f; decide) _
  · exact profileInRange_default

theorem passesChecks_loaded (p : Profile) : p.loaded.passesChecks = true := by
  unfold Profile.loaded
  split
  · assumption
  · decide

theorem loadedProtect_range {r : Option AxleRange} : ∀ x, loadedProtect r = some x → x.lo ≤ x.hi ∧ x.hi ≤ 9 := by
  intro x h
  unfold loadedProtect at h
  split at h
  · split at h
    · next range => cases h; exact range
    · cases h
  · cases h

/-! ### The completion of the load (R160) -/

/-- The state whose load completes: the content taken, or the defaults. -/
def Machine.State.loaded (s : State) : State :=
  match s.nonvolatile.validImage with
  | some i => s.takeImage i
  | none => s.takeDefaults

theorem Machine.State.startRecords_wheel (s : State) (p : Pos) :
    s.startRecords.wheel p = match s.slotId p with
      | none => .empty
      | some _ => .fresh (startState (s.detachedSlot p)) s.uptime := by
  unfold State.startRecords
  rw [State.tabulate_wheel, posOfIdx_idx]
  rfl

/-- Records started from the map alone, with nothing in the alert list (R98). -/
theorem WheelLaws.startRecords {s : State} (map : MapLaw s) (alerts : s.alerts = ⟨[], [], false⟩) :
    WheelLaws s.detachedSlot s.startRecords := by
  have calm (p : Pos) (k : Condition) : s.startRecords.active p k = false := by
    unfold State.active
    rw [State.startRecords_wheel]
    split
    · exact Conditions.none_has k
    · exact Conditions.none_has k
  refine ⟨{ map with }, fun p => ?_, ⟨fun p h => ?_, fun p h => ?_, fun p => ?_⟩, ?_⟩
  · rw [State.startRecords_wheel, show s.startRecords.slotId p = s.slotId p from rfl]
    split
    · next h => rw [h]; exact soundRecord_empty _
    · next h => rw [h]; exact soundRecord_fresh _ _
  · rw [calm] at h; cases h
  · rw [calm] at h; cases h
  · rw [calm, calm]
  · have none : s.startRecords.alerts = ⟨[], [], false⟩ := alerts
    refine ⟨?_, ?_, ?_, ?_⟩ <;> rw [none]
    · exact Nat.zero_le _
    · exact List.nodup_nil
    · exact fun m h => absurd h List.not_mem_nil
    · exact fun h => absurd rfl h

/-- What a load takes is in range; a part that is LOADING has lifted no axle and runs no session (R144, R159). -/
theorem outerLaws_loaded {s : State} (h : Lawful s) (l : s.loading = true) : OuterLaws s.loaded := by
  have grounded (a : Fin 10) : s.vehicle.lifted.getLsbD a.val = true → False := fun up => by
    have present := (h.lift.admitted a up).1
    rw [h.lift.loading l a] at present
    cases present
  unfold State.loaded
  split
  · next i _ =>
    refine ⟨{ h.range with
      config := configInRange_clamped i.config
      profiles := fun f => ?_
      checks := fun f => ?_
      protect := loadedProtect_range }, ⟨fun a up => (grounded a up).elim, nofun⟩, sessionLaw_of_none (h.loading.session l)⟩
    · rw [show (s.takeImage i).profiles[f] = (i.profiles[f]).loaded by simp [State.takeImage]]
      exact profileInRange_loaded _
    · rw [show (s.takeImage i).profiles[f] = (i.profiles[f]).loaded by simp [State.takeImage]]
      exact passesChecks_loaded _
  · refine ⟨{ h.range with
      config := configInRange_default
      profiles := fun f => ?_
      checks := fun f => ?_
      protect := nofun }, ⟨fun a up => (grounded a up).elim, nofun⟩, sessionLaw_of_none (h.loading.session l)⟩
    · rw [show s.takeDefaults.profiles[f] = Profile.default by simp [State.takeDefaults]]
      exact profileInRange_default
    · rw [show s.takeDefaults.profiles[f] = Profile.default by simp [State.takeDefaults]]
      decide

theorem mapLaw_loaded (s : State) : MapLaw s.loaded := by
  unfold State.loaded
  split
  · exact mapLaw_takeImage s _
  · exact ⟨fun p id h => by simp at h, fun p q id h => by simp at h⟩

theorem Machine.State.loaded_alerts (s : State) : s.loaded.alerts = s.alerts := by
  unfold State.loaded
  split <;> rfl

theorem kept_completeLoad {s : State} (h : Lawful s) (l : s.loading = true) : Kept s.completeLoad := by
  have wheels := WheelLaws.startRecords (mapLaw_loaded s) (s.loaded_alerts.trans (h.loading.alerts l))
  have started : Kept s.loaded.startRecords := ⟨(outerLaws_loaded h l).of_outer rfl, wheels⟩
  exact (started.of_eq (State.putPermit_outer _ _) (State.putPermit_inner _ _)).setFlagBoth .store

theorem kept_loadCompletion {s : State} (h : Lawful s) : Result.Gives Kept (execLoadCompletion s) := by
  unfold execLoadCompletion
  split
  · next l => exact gives_next (kept_completeLoad h l)
  · exact gives_next (Kept.of_lawful h)

/-! ### Every command -/

/-- Every command keeps the laws of the three statements. -/
theorem kept_exec {s : State} (h : Lawful s) (c : Instr) : Result.Gives Kept (exec c s) := by
  have k := Kept.of_lawful h
  cases c with
  | powerUp => exact gives_next (kept_restart s)
  | resetN => exact gives_next (kept_restart s)
  | powerLoss => exact gives_next (kept_restart s)
  | uptimeTick => exact gives_next k.uptimeTick
  | loadCompletion => exact kept_loadCompletion h
  | vsenseSample level => exact k.vsenseSample level
  | syncDetected ch bits level => exact gives_next (k.setReceiver ch _)
  | lineCodingViolation ch => exact gives_next (k.setReceiver ch _)
  | telegramCompletion ch bits => exact k.telegramCompletion ch bits
  | entryTaken => exact k.entryTaken h.receive
  | silenceExpiry a t => exact k.silenceExpiry a t
  | positionTimerExpiry => exact gives_next k.expireTimer
  | writeBegin => exact k.writeBegin
  | writeCompletion ok => exact k.writeCompletion ok
  | malformedCommandFrame q sdi => exact k.malformedCommandFrame q sdi
  | nop q => exact gives_next (k.transact q (k.answer q _ _))
  | readId q => exact gives_next (k.transact q (k.answer q _ _))
  | getEvents q => exact k.getEvents q
  | setEventMask q m => exact k.setEventMask q m
  | portReset q => exact k.portReset q
  | readWheels q a b c d => exact k.readWheels q a b c d
  | readAxles q a n => exact k.checkedRead q _ _
  | readAlerts q n => exact k.checkedRead q _ _
  | ackAlert q a b c => exact k.ackAlert q a b c
  | readPermit q => exact k.read q _
  | setVehicleLoad q v => exact k.setVehicleLoad q v
  | setVehicleBody q v => exact k.setVehicleBody q v
  | setVehicleTrailer q v => exact k.setVehicleTrailer q v
  | setVehicleMotion q v => exact k.setVehicleMotion q v
  | setVehicleLiftedSet q v => exact k.setVehicleLiftedSet q v
  | setVehicleAmbient q v => exact k.setVehicleAmbient q v
  | readVehicle q => exact gives_next (k.transact q (k.answer q _ _))
  | setConfig q i v => exact k.setConfig q i v
  | readConfig q => exact k.read q _
  | mapAssign q g a t id => exact k.mapAssign q g a t id
  | mapRemove q g a t => exact k.mapRemove q g a t
  | mapSetAxle q g a b c d e f l => exact k.mapSetAxle q g a b c d e f l
  | mapMove q g a b c d e f n => exact k.mapMove q g a b c d e f n
  | mapProtect q g a b c => exact k.mapProtect q g a b c
  | profileSelect q n f => exact k.profileSelect q n f
  | profileWrite q v => exact k.profileWrite q v
  | profileRead q n => exact k.profileRead q n
  | learnStart q g a b => exact k.learnStart q g a b
  | learnSkip q => exact k.learnSkip q
  | learnFinish q => exact k.learnFinish q
  | learnAbort q => exact k.learnAbort q
  | learnStatus q => exact k.read q _
  | storeCommit q => exact k.storeCommit q
  | storeStatus q => exact gives_next (k.transact q (k.answer q _ _))

theorem kept_step {s t : State} (h : Lawful s) (e : step s = .next t) : Kept t := by
  unfold step at e
  split at e
  · cases e
    exact Kept.of_lawful h
  · exact kept_exec (lawful_withPending h _) _ t e

/-- Settles O57: read off the laws that every command keeps. -/
theorem stepKeepsValuesInTheirRanges : Obligations.StepKeepsValuesInTheirRanges := by
  unfold Obligations.StepKeepsValuesInTheirRanges
  intro s t h e
  have k := kept_step h e
  exact ⟨k.outer.range, k.outer.lift, k.pressureLaw, k.countLaw⟩

/-- Settles O58: read off the laws that every command keeps. -/
theorem stepKeepsTheMapSessionAndRecords : Obligations.StepKeepsTheMapSessionAndRecords := by
  unfold Obligations.StepKeepsTheMapSessionAndRecords
  intro s t h e
  have k := kept_step h e
  exact ⟨k.wheels.map, k.outer.session, k.recordLaw, k.detachedLaw, k.staleLaw⟩

/-- Settles O59: read off the laws that every command keeps. -/
theorem stepKeepsConditionsAndAlerts : Obligations.StepKeepsConditionsAndAlerts := by
  unfold Obligations.StepKeepsConditionsAndAlerts
  intro s t h e
  have k := kept_step h e
  exact ⟨k.mirrorLaw, k.wheels.pair, k.wheels.alert⟩

end Sys2Proof

/-! ## Power-up values, replies and the reads -/

namespace Sys2Proof
open Machine Safety

/-! ### Power-up -/

@[simp] theorem Port.reset_flag (e : EventFlag) : Port.reset.flag e = (e == .restarted) := by cases e <;> rfl

@[simp] theorem reset_port (q : PortId) : State.reset.port q = Port.reset := by cases q <;> rfl

/-- Settles O2: the table values are read off one by one. -/
theorem resetHoldsPowerUpValues : Obligations.ResetHoldsPowerUpValues := by
  unfold Obligations.ResetHoldsPowerUpValues
  refine ⟨rfl, rfl, rfl, rfl, reset_axle, reset_slotId, rfl, rfl, fun f => ?_, reset_wheel, rfl, rfl, rfl, rfl, rfl, rfl, rfl,
    rfl, fun q => ?_, rfl, fun q => ?_⟩
  · exact Vector.getElem_fin_replicate _ f
  · rw [reset_port]
    refine ⟨rfl, rfl, rfl, rfl, fun e => ⟨Port.reset_flag e, ?_⟩⟩
    cases e <;> rfl
  · cases q <;> decide

/-! ### What a transaction answers -/

theorem next_taken {s : State} {q : PortId} (h : Claims.Takes s q) (f : State → State) :
    (.next (s.transact q f) : Machine.Result) = .next (f s) := by rw [State.transact_taken h]

/-- A command that the load does not take, outside the load. -/
theorem next_loaded {s : State} {q : PortId} (h : Claims.Takes s q) (l : s.loading = false) (f : State → State) :
    (.next (s.unlessLoading q f) : Machine.Result) = .next (f s) := by rw [State.unlessLoading_taken h l]

/-- A command that the load does not take, during the load. -/
theorem next_busy {s : State} {q : PortId} (h : Claims.Takes s q) (l : s.loading = true) (f : State → State) :
    (.next (s.unlessLoading q f) : Machine.Result) = .next (s.answer q .busy []) := by rw [State.unlessLoading_busy h l]; rfl

/-- Every command that has a frame is a transaction on the port of its frame. -/
theorem exec_of_encodeFrame {c : Instr} {q : PortId} {frame : List Byte} (h : encodeFrame c = some (q, frame)) :
    ∃ f : State → State, ∀ s, exec c s = .next (s.transact q f) := by
  cases c
  case powerUp | resetN | uptimeTick | loadCompletion | vsenseSample | telegramCompletion | entryTaken | silenceExpiry
    | positionTimerExpiry | writeBegin | writeCompletion | malformedCommandFrame | syncDetected | lineCodingViolation
    | powerLoss => cases h
  all_goals
    cases h
    exact ⟨_, fun _ => rfl⟩

theorem exec_of_endsOn {c : Instr} {q : PortId} (h : Claims.EndsOn q c) :
    ∃ f : State → State, ∀ s, exec c s = .next (s.transact q f) := by
  rcases h with ⟨_, framed⟩ | ⟨_, rfl⟩
  · exact exec_of_encodeFrame framed
  · exact ⟨_, fun _ => rfl⟩

/-! ### The reply slot -/

/-- Bytes read past the end of a reply are 00h (R167). -/
theorem map_getD_range (l : List Byte) (k : Nat) :
    (List.range (l.length + k)).map (fun i => l[i]?.getD 0) = l ++ List.replicate k 0 := by
  apply List.ext_getElem
  · simp
  · intro i h _
    simp only [List.getElem_map, List.getElem_range, List.getElem_append]
    split
    · next inside => simp [inside]
    · next past => simp [List.getElem?_eq_none (Nat.le_of_not_lt past)]

theorem Machine.Status.code_eq (st : Status) : st.code = Claims.statusCode st := by cases st <;> rfl

theorem Machine.Port.shiftOut_reply (x : Port) (k : Nat) :
    x.shiftOut (4 + x.reply.bytes.length + k)
      = [Claims.statusCode x.reply.status, BitVec.ofNat 8 x.reply.bytes.length] ++ Claims.two x.reply.generation
        ++ x.reply.bytes ++ List.replicate k 0 := by
  have length : x.reply.bytesOut.length = 4 + x.reply.bytes.length := by
    simp [Reply.bytesOut, bytes2]
    omega
  unfold Port.shiftOut
  rw [← length, map_getD_range, Reply.bytesOut, Status.code_eq]
  rfl

theorem Machine.State.sdoPin_selected {s : State} {q : PortId} {n : Nat} {b : Byte} (h : (s.port q).selected = true)
    (hb : ((s.port q).shiftOut (n / 8 + 1))[n / 8]? = some b) : s.sdoPin q n = some (b.getLsbD (7 - n % 8)) := by
  have bit : n % 8 < 8 := Nat.mod_lt _ (by decide)
  unfold State.sdoPin
  rw [if_pos h, hb]
  simp [BitVec.getMsbD, bit]

/-- Settles O9: from the bytes of a reply frame and the transactions of R167. -/
theorem replySlotIsShiftedOutNext : Obligations.ReplySlotIsShiftedOutNext := by
  unfold Obligations.ReplySlotIsShiftedOutNext
  refine ⟨fun s q r st bs k => ?_, fun s q n => ⟨fun h => ?_, fun b h hb => State.sdoPin_selected h hb⟩, fun s q c hc he => ?_⟩
  · have own : (s.answer q st bs).port q = { s.port q with reply := ⟨st, s.generation, bs⟩ } := by
      cases q <;> rfl
    dsimp only
    rw [own]
    refine ⟨rfl, fun _ => Port.shiftOut_reply _ k, fun ne => ?_, rfl, rfl, rfl, rfl, rfl⟩
    rw [State.answer_port, if_neg (Ne.symm ne)]
  · simp [State.sdoPin, h]
  · obtain ⟨f, hf⟩ := exec_of_endsOn he
    rw [hf, State.transact_cut hc]

/-! ### Reply layouts -/

theorem bytes4_eq (x : BitVec 32) : bytes4 x = Claims.four x := by
  have high (k : Nat) (hk : k ≤ 8) : (x.extractLsb' 16 16).extractLsb' k 8 = x.extractLsb' (16 + k) 8 := by
    ext i hi
    simp only [BitVec.getElem_extractLsb', BitVec.getLsbD_extractLsb']
    rw [decide_eq_true (by omega), Bool.true_and]
    congr 1
    omega
  have low (k : Nat) (hk : k ≤ 8) : (x.extractLsb' 0 16).extractLsb' k 8 = x.extractLsb' k 8 := by
    ext i hi
    simp only [BitVec.getElem_extractLsb', BitVec.getLsbD_extractLsb']
    rw [decide_eq_true (by omega), Bool.true_and]
    congr 1
    omega
  simp only [bytes4, bytes2, high 8 (by decide), high 0 (by decide), low 8 (by decide), low 0 (by decide)]
  rfl

theorem byte_writerCode (w : Option PortId) : byte (writerCode w) = Claims.writer w := by
  cases w with
  | none => rfl
  | some q => cases q <;> rfl

theorem vehicleBytes_eq (s : State) : s.vehicleBytes = Claims.vehicleReply s := by
  have load : byte s.vehicle.load.code = (match s.vehicle.load with | .unladen => (0 : Byte) | .laden => 1) := by
    cases s.vehicle.load <;> rfl
  have body : byte s.vehicle.body.code
      = (match s.vehicle.body with | .down => (0 : Byte) | .raising => 1 | .raised => 2 | .lowering => 3) := by
    cases s.vehicle.body <;> rfl
  have trailer : byte s.vehicle.trailer.code = (match s.vehicle.trailer with | .absent => (0 : Byte) | .present => 1) := by
    cases s.vehicle.trailer <;> rfl
  have motion : byte s.vehicle.motion.code = (match s.vehicle.motion with | .stopped => (0 : Byte) | .moving => 1) := by
    cases s.vehicle.motion <;> rfl
  have supply : byte s.supply.state.code = (match s.supply.state with | .normal => (0 : Byte) | .low => 1) := by
    cases s.supply.state <;> rfl
  simp only [State.vehicleBytes, Claims.vehicleReply, byte_writerCode, bytes4_eq, load, body, trailer, motion, supply]
  cases s.supply.lastSample <;> rfl

theorem configBytes_eq (c : ConfigItems) : c.bytesOut = Claims.configReply c := by
  simp [ConfigItems.bytesOut, Claims.configReply, bytes4_eq, ConfigItems.value]

theorem profileBytes_eq (p : Profile) : p.bytesOut = Claims.fields p := rfl

theorem profileReply_eq (f : Profile) (g : Option Staging) :
    f.bytesOut ++ pointerBytes g ++ (match g with | none => [] | some g => g.copy.bytesOut) = Claims.profileReply f g := by
  cases g with
  | none => simp [Claims.profileReply, profileBytes_eq, pointerBytes]
  | some g => simp [Claims.profileReply, profileBytes_eq, pointerBytes, byte]

theorem timeBytes_eq (s : State) (l : Session) :
    s.timeRemaining l = (match s.supply.state with
      | .low => 0xFFFF
      | .normal => BitVec.ofNat 16 (max 0 (10 * s.config.learnTimeout - ((s.uptime - l.timerStart).toNat : Int))).toNat) := by
  have positive (x : Int) : (max 0 x).toNat = x.toNat := by omega
  unfold State.timeRemaining
  cases s.supply.state
  · simp only [positive]; rfl
  · rfl

theorem cursorBytes_eq (s : State) (l : Session) :
    s.cursorBytes l = (match l.positions[l.cursor]? with
      | none => [0, 0, 0]
      | some p => [BitVec.ofNat 8 p.axle.val, BitVec.ofNat 8 p.slot.val,
          (match (s.axle p.axle).unit with | .truck => 0 | .trailer => 1)]) := by
  unfold State.cursorBytes Session.here
  cases l.positions[l.cursor]? with
  | none => rfl
  | some p =>
    unfold State.expectedChannel
    dsimp only
    cases (s.axle p.axle).unit <;> rfl

theorem learnBytes_eq (s : State) : s.learnBytes = Claims.learnReply s := by
  have outcome : byte s.learn.lastOutcome.code = (match s.learn.lastOutcome with
      | .none => (0 : Byte) | .completed => 1 | .finishedEarly => 2 | .timedOut => 3 | .aborted => 4 | .cancelled => 5) := by
    cases s.learn.lastOutcome <;> rfl
  unfold State.learnBytes Claims.learnReply
  rw [outcome]
  cases s.learn.session with
  | none => rfl
  | some l =>
    have staged : l.staging.flatMap stagingBytes
        = l.staging.flatMap fun e => [BitVec.ofNat 8 e.1.axle.val, BitVec.ofNat 8 e.1.slot.val] ++ Claims.four (e.2.getD 0) := by
      congr 1
      funext e
      rw [stagingBytes, bytes4_eq]
      rfl
    dsimp only
    rw [staged, cursorBytes_eq, timeBytes_eq]
    rfl

theorem axleBytes_eq (s : State) (a : Fin 10) : s.axleBytes a = Claims.axleReply s a := by
  have unit (u : AxleUnit) : 2 * u.code = (match u with | .truck => 0 | .trailer => 2) := by cases u <;> rfl
  have kind (k : AxleKind) : 4 * k.code = (match k with | .single => 0 | .dual => 4) := by cases k <;> rfl
  have one (b : Bool) : b.toNat = if b then 1 else 0 := by cases b <;> rfl
  have eight (b : Bool) : 8 * b.toNat = if b then 8 else 0 := by cases b <;> rfl
  have sixteen (b : Bool) : 16 * b.toNat = if b then 16 else 0 := by cases b <;> rfl
  simp only [State.axleBytes, Claims.axleReply, unit, kind, eight, sixteen, bytes4_eq, axlePositions, List.flatMap_map]
  rw [one]
  rfl

/-! ### The reads -/

theorem slotOf_val (k : Fin 4) : slotOf k.val = some k := by simp [slotOf]

theorem slotOf_eq_none {n : Nat} (h : 3 < n) : slotOf n = none := by simp [slotOf]; omega

/-- Settles O13: each read answers with the bytes of its layout and changes nothing else. -/
theorem readCommandsChangeOnlyTheReply : Obligations.ReadCommandsChangeOnlyTheReply := by
  unfold Obligations.ReadCommandsChangeOnlyTheReply
  intro s q takes
  refine ⟨?_, fun l => ⟨?_, ?_, fun pf f hf => ?_, fun pf hf => ?_, fun i hi => ?_, fun a n ha => ?_, fun a n ha => ?_,
    fun a k na nk ha hk => ?_, fun a k na nk h => ?_⟩⟩
  · rw [← vehicleBytes_eq]; exact next_taken takes _
  · rw [← configBytes_eq]; exact next_loaded takes l _
  · rw [← learnBytes_eq]; exact next_loaded takes l _
  · refine (next_loaded takes l _).trans ?_
    rw [profileOf, hf, slotOf_val]
    exact congrArg (fun bs => Host.Outcome.next (s.answer q .ok bs)) (profileReply_eq s.profiles[f] (s.port q).staging)
  · refine (next_loaded takes l _).trans ?_
    rw [profileOf, slotOf_eq_none hf]
    rfl
  · refine (next_loaded takes l _).trans ?_
    rw [if_neg (by omega)]
    rfl
  · refine (next_loaded takes l _).trans ?_
    have axles : s.axleBytes = Claims.axleReply s := funext (axleBytes_eq s)
    rw [if_pos ha, axles]
    cases s.protect <;> rfl
  · refine (next_loaded takes l _).trans ?_
    rw [if_neg (by omega)]
    rfl
  · refine (next_loaded takes l _).trans ?_
    rw [if_pos ⟨ha, hk⟩]
    rfl
  · refine (next_loaded takes l _).trans ?_
    rw [if_neg (by omega)]
    rfl

/-! ### The protect range -/

theorem flagOf_eq_none {n : Nat} (h : 1 < n) : flagOf n = none := by
  unfold flagOf
  split
  · omega
  · omega
  · rfl

/-- The parameters of MAP_PROTECT that R12 refuses. -/
theorem protectOf_eq (action first last : Byte) :
    protectOf action first last
      = if 1 < action.toNat ∨ (action.toNat = 1 ∧ (9 < first.toNat ∨ 9 < last.toNat ∨ last.toNat < first.toNat)) then none
        else some (if action.toNat = 1 then some ⟨first.toNat, last.toNat⟩ else none) := by
  unfold protectOf
  rcases Nat.lt_trichotomy action.toNat 1 with zero | one | more
  · have : action.toNat = 0 := by omega
    simp [this, flagOf]
  · have unfit : (9 < first.toNat ∨ 9 < last.toNat ∨ last.toNat < first.toNat)
        ↔ ¬ (first.toNat ≤ last.toNat ∧ last.toNat ≤ 9) := by omega
    by_cases fit : first.toNat ≤ last.toNat ∧ last.toNat ≤ 9
    · simp [flagOf, one, unfit, fit]
    · simp only [flagOf, one, unfit, if_neg fit]
      simp [fit]
  · simp [flagOf_eq_none more, more]

/-- Settles O48: by the checks of R12 in their order. -/
theorem mapProtectSetsOrClearsTheRange : Obligations.MapProtectSetsOrClearsTheRange := by
  unfold Obligations.MapProtectSetsOrClearsTheRange
  intro s q expected action first last takes
  dsimp only
  refine ⟨fun l => next_busy takes l _, fun l unfit => ?_, fun l fit stale => ?_, fun l fit current busy => ?_,
    fun l fit current idle => ?_⟩
  all_goals
    refine (next_loaded takes l _).trans ?_
    rw [protectOf_eq]
  · rw [if_pos unfit]; rfl
  · rw [if_neg fit]
    simp [stale, State.refuse]
  · rw [if_neg fit]
    have some : s.learn.session.isNone = false := by simpa [Option.isSome_iff_ne_none] using busy
    simp [current, some, State.refuse]
  · rw [if_neg fit]
    simp [current, idle]

end Sys2Proof

/-! ## The frame of an event, and the load -/

namespace Sys2Proof
open Machine Safety

/-! ### Judging does no more than the frame allows -/

theorem Machine.State.answer_rest {t u : State} (h : t.rest = u.rest) (q : PortId) (st : Status) (bs : List Byte) :
    (t.answer q st bs).rest = (u.answer q st bs).rest := by
  have same := congrArg (fun x : State => (x.answer q st bs).rest) h
  cases q <;> exact same

/-- t is u but for what judging writes (State.rest), with the flags that judging sets. -/
structure Machine.State.Judges (t u : State) : Prop where
  rest : t.rest = u.rest
  grown : t.Grown u

namespace Machine.State.Judges

theorem refl (s : State) : s.Judges s := ⟨rfl, .refl s⟩

theorem trans {s t u : State} (h : t.Judges s) (g : s.Judges u) : t.Judges u := ⟨h.rest.trans g.rest, h.grown.trans g.grown⟩

theorem judgedFrom {t u : State} (h : t.Judges u) : JudgedFrom t u := judgedFrom_of_rest h.rest h.grown

theorem noteWheels {t u : State} (h : t.Judges u) (b : State) : (b.noteWheels t).Judges u :=
  ⟨(State.noteWheels_rest b t).trans h.rest, (State.noteWheels_grown b t).trans h.grown⟩

theorem evaluate {t u : State} (h : t.Judges u) : t.evaluate.Judges u :=
  ⟨(State.evaluate_rest t).trans h.rest, (State.evaluate_grown t).trans h.grown⟩

theorem firstEvaluation {t u : State} (h : t.Judges u) : t.firstEvaluation.Judges u :=
  ⟨(State.firstEvaluation_rest t).trans h.rest, (State.putPermit_grown t _).trans h.grown⟩

theorem setFlagIf {t u : State} (h : t.Judges u) (c : Bool) (e : EventFlag) (judged : e.bit &&& 0x7E1#11 = 0) :
    (t.setFlagIf c e).Judges u :=
  ⟨(State.setFlagIf_rest t c e).trans h.rest, (State.setFlagIf_grown t c e judged).trans h.grown⟩

/-- A flag set on one port in both. -/
theorem setFlag {t u : State} (h : t.Judges u) (q : PortId) (e : EventFlag) : (t.setFlag q e).Judges (u.setFlag q e) := by
  refine ⟨by rw [State.setFlag_rest, State.setFlag_rest, h.rest], ?_⟩
  obtain ⟨m, hm, hf⟩ := h.grown
  refine ⟨m, hm, fun r => ?_⟩
  rw [State.setFlag_port, State.setFlag_port]
  split
  · next e' => subst e'; simp only [hf, BitVec.or_assoc, BitVec.or_comm m]
  · exact hf r

theorem setFlagBoth {t u : State} (h : t.Judges u) (e : EventFlag) : (t.setFlagBoth e).Judges (u.setFlagBoth e) :=
  (h.setFlag .a e).setFlag .b e

theorem answer {t u : State} (h : t.Judges u) (q : PortId) (st : Status) (bs : List Byte) :
    (t.answer q st bs).Judges (u.answer q st bs) := by
  refine ⟨State.answer_rest h.rest q st bs, ?_⟩
  obtain ⟨m, hm, hf⟩ := h.grown
  refine ⟨m, hm, fun r => ?_⟩
  rw [State.answer_port, State.answer_port]
  split
  · next e => subst e; exact hf _
  · exact hf r

/-- The generation advances in both. -/
theorem generation {t u : State} (h : t.Judges u) :
    State.Judges { t with generation := t.generation + 1 } { u with generation := u.generation + 1 } :=
  ⟨congrArg (fun x : State => { x with generation := x.generation + 1 }) h.rest, h.grown⟩

theorem vehicleTaken {t u : State} (h : t.Judges u) (q : PortId) (item : Nat) (value : Half) :
    (t.vehicleTaken q item value).Judges (u.vehicleTaken q item value) := (h.setFlag _ _).answer _ _ _

/-- What every taken edit of slots does (R14). -/
theorem editTaken {t u : State} (h : t.Judges u) (w : Bool) :
    (t.editTaken w).Judges (State.setFlagBoth { u with generation := u.generation + 1 } .image) :=
  ((h.generation.setFlagBoth .image).setFlagIf w .wheel (by decide)).evaluate

end Machine.State.Judges

/-! ### Values as a load takes them -/

theorem clampInt_eq_nearest {lo hi : Int} (h : lo ≤ hi) (x : Int) : clampInt lo hi x = Claims.nearest lo hi x := by
  unfold clampInt Claims.nearest
  split
  · omega
  · split <;> omega

theorem clampField_eq_nearest (f : Fin 11) (x : Int) :
    clampField f x = Claims.nearest (Claims.fieldRanges[f]).1 (Claims.fieldRanges[f]).2 x := by
  have range : fieldRange f = Claims.fieldRanges[f] := rfl
  have ordered : (fieldRange f).1 ≤ (fieldRange f).2 := by revert f; decide
  rw [← range]
  exact clampInt_eq_nearest ordered x

theorem passesChecks_iff (p : Profile) : p.passesChecks = true ↔ p[2] < p[3] ∧ p[8] < p[9] ∧ p[5] < p[2] := by
  show _ ↔ p.lowWarn < p.lowAlarm ∧ p.hotWarn < p.hotAlarm ∧ p.hysteresis < p.lowWarn
  simp [Profile.passesChecks, Profile.alarmOrderFails, Profile.hotOrderFails, Profile.hysteresisOrderFails, and_assoc]

theorem configClamped_eq (c : ConfigItems) :
    c.clamped = ⟨Claims.nearest 30 600 c.movingLimit, Claims.nearest 300 7200 c.stoppedLimit,
      Claims.nearest (-20) 40 c.referenceTemp, c.pattern, c.mask, Claims.nearest (-120) (-40) c.rssiFloor,
      Claims.nearest 10 600 c.learnTimeout, Claims.nearest 80 240 c.supplyThreshold⟩ := by
  simp [ConfigItems.clamped, clampInt_eq_nearest]

/-! ### Axle codes -/

theorem flagOf_isSome {n : Nat} : (∃ b, flagOf n = some b) ↔ n ≤ 1 := by
  match n with
  | 0 => simp [flagOf]
  | 1 => simp [flagOf]
  | n + 2 => simp [flagOf]

theorem unitOf_isSome {n : Nat} : (∃ u, unitOf n = some u) ↔ n ≤ 1 := by
  match n with
  | 0 => simp [unitOf]
  | 1 => simp [unitOf]
  | n + 2 => simp [unitOf]

theorem kindOf_isSome {n : Nat} : (∃ k, kindOf n = some k) ↔ n ≤ 1 := by
  match n with
  | 0 => simp [kindOf]
  | 1 => simp [kindOf]
  | n + 2 => simp [kindOf]

theorem profileOf_isSome {n : Nat} : (∃ f, profileOf n = some f) ↔ n ≤ 3 := by
  unfold profileOf slotOf
  split <;> simp <;> omega

theorem Machine.StoredAxle.decode_eq_some {c : StoredAxle} {r : AxleRecord} :
    c.decode = some r ↔ flagOf c.present = some r.present ∧ unitOf c.unit = some r.unit ∧ kindOf c.kind = some r.kind
      ∧ profileOf c.profile = some r.profile ∧ flagOf c.tipCritical = some r.tipCritical
      ∧ flagOf c.liftCapable = some r.liftCapable := by
  unfold StoredAxle.decode
  constructor
  · intro h
    split at h
    · next h1 h2 h3 h4 h5 h6 => cases h; exact ⟨h1, h2, h3, h4, h5, h6⟩
    · cases h
  · rintro ⟨h1, h2, h3, h4, h5, h6⟩
    rw [h1, h2, h3, h4, h5, h6]

theorem Machine.StoredAxle.decode_isSome {c : StoredAxle} : (∃ r, c.decode = some r) ↔ Claims.CodesInRange c := by
  unfold Claims.CodesInRange
  rw [← flagOf_isSome, ← unitOf_isSome, ← kindOf_isSome, ← profileOf_isSome, ← flagOf_isSome, ← flagOf_isSome]
  constructor
  · rintro ⟨r, h⟩
    obtain ⟨h1, h2, h3, h4, h5, h6⟩ := StoredAxle.decode_eq_some.1 h
    exact ⟨⟨_, h1⟩, ⟨_, h2⟩, ⟨_, h3⟩, ⟨_, h4⟩, ⟨_, h5⟩, ⟨_, h6⟩⟩
  · rintro ⟨⟨_, h1⟩, ⟨_, h2⟩, ⟨_, h3⟩, ⟨_, h4⟩, ⟨_, h5⟩, ⟨_, h6⟩⟩
    exact ⟨⟨_, _, _, _, _, _⟩, StoredAxle.decode_eq_some.2 ⟨h1, h2, h3, h4, h5, h6⟩⟩

theorem validId_iff (id : SensorId) : validId id = true ↔ id ≠ 0x00000000 ∧ id ≠ 0xFFFFFFFF := by simp [validId]

theorem validSlot_iff (r : AxleRecord) (k : Fin 4) : r.validSlot k = true ↔ Claims.ValidSlot r k := by
  simp [AxleRecord.validSlot, Claims.ValidSlot, or_assoc]

/-! ### The state after the load -/

theorem Machine.State.completeLoad_eq (s : State) : s.completeLoad = s.loaded.startRecords.firstEvaluation.setFlagBoth .store := rfl

theorem Machine.State.completeLoad_judges (s : State) : s.completeLoad.Judges (s.loaded.setFlagBoth .store) :=
  ((Judges.mk rfl (.of_ports rfl rfl) : s.loaded.startRecords.Judges s.loaded).firstEvaluation).setFlagBoth .store

/-- The load writes these fields alone (R160). -/
theorem Machine.State.loaded_eq (s : State) : s.loaded = { s with
    axles := s.loaded.axles
    slots := s.loaded.slots
    protect := s.loaded.protect
    profiles := s.loaded.profiles
    config := s.loaded.config
    generation := s.loaded.generation
    store := s.loaded.store } := by
  unfold State.loaded
  split <;> rfl

theorem Machine.State.completeLoad_wheel (s : State) (p : Pos) : s.completeLoad.wheel p = s.loaded.startRecords.wheel p := by
  rw [State.completeLoad_eq, State.setFlagBoth_wheel]
  unfold State.wheel State.firstEvaluation
  rw [State.putPermit_wheels]

theorem Machine.State.completeLoad_slotId (s : State) (p : Pos) : s.completeLoad.slotId p = s.loaded.slotId p :=
  (State.slotId_of_rest s.completeLoad_judges.rest p).trans (State.setFlagBoth_slotId _ _ p)

theorem Machine.State.startRecords_state (s : State) (p : Pos) : (s.startRecords.wheel p).state ≠ .live := by
  rw [State.startRecords_wheel]
  split
  · decide
  · simp [WheelRecord.fresh, startState]
    split <;> decide

theorem causes_ne_nil {r : WheelRecord} (h : r.state ≠ .live) : r.causes ≠ [] := by
  unfold WheelRecord.causes
  split
  · simp
  · next live => exact absurd live h
  · simp

/-- A list of reasons is not empty where no record is LIVE: every considered axle has a slot 0 (R115, R116). -/
theorem Machine.State.rawVerdict_withheld {s : State} (h : ∀ p, (s.wheel p).state ≠ .live) : s.rawVerdict = .withheld := by
  have some : s.fullReasons ≠ [] := by
    unfold State.fullReasons
    split
    · simp
    · next axles _ =>
      obtain ⟨a, rest, hl⟩ := List.exists_cons_of_ne_nil (l := (List.finRange 10).filter s.considered) (by assumption)
      have considered : s.considered a = true := by
        have : a ∈ (List.finRange 10).filter s.considered := by rw [hl]; exact List.mem_cons_self
        exact (List.mem_filter.1 this).2
      have present : (s.axle a).present = true := by
        simp only [State.considered, Bool.and_eq_true] at considered
        exact considered.1.1.1
      have slot : (⟨a, 0⟩ : Pos) ∈ s.validSlots a := by
        simp [State.validSlots, State.validPos, AxleRecord.validSlot, present]
      obtain ⟨c, cs, hc⟩ := List.exists_cons_of_ne_nil (causes_ne_nil (h ⟨a, 0⟩))
      rw [hl, List.flatMap_cons]
      have reason : (⟨Option.some a, Option.some 0, c⟩ : Reason) ∈ s.axleReasons a :=
        List.mem_append_left _ (List.mem_flatMap.2 ⟨_, slot, List.mem_map.2 ⟨c, by rw [hc]; exact List.mem_cons_self, rfl⟩⟩)
      exact fun nil => List.not_mem_nil (List.append_eq_nil_iff.1 nil |>.1 ▸ reason)
  simp [State.rawVerdict, some]

theorem Machine.State.completeLoad_permit (s : State) :
    s.completeLoad.permit.basis = .evaluated ∧ s.completeLoad.permit.verdict = .withheld
      ∧ (s.completeLoad.permit.latched = true ↔ s.vehicle.body ≠ .down) := by
  have permit : s.completeLoad.permit = s.loaded.startRecords.evaluatedPermit := by
    rw [State.completeLoad_eq, State.setFlagBoth_permit, State.firstEvaluation, State.putPermit_permit]
  have raw := State.rawVerdict_withheld s.loaded.startRecords_state
  have vehicle : s.loaded.vehicle = s.vehicle := by rw [s.loaded_eq]
  have body : s.loaded.startRecords.vehicle.body = s.vehicle.body := congrArg Vehicle.body vehicle
  have withheld (b : BodyState) (v : Verdict) : (latchRule b v .withheld).1 = .withheld
      ∧ ((latchRule b v .withheld).2 = true ↔ b ≠ .down) := by
    cases b <;> cases v <;> decide
  have rule := withheld s.vehicle.body s.loaded.startRecords.permit.verdict
  rw [permit]
  unfold State.evaluatedPermit
  rw [raw, body]
  exact ⟨rfl, rule⟩

theorem Machine.State.setFlagIf_flag_ne (s : State) (c : Bool) {e f : EventFlag} (h : e ≠ f) (q : PortId) :
    ((s.setFlagIf c e).port q).flag f = (s.port q).flag f := by
  cases c
  · rfl
  · rw [State.setFlagIf, if_pos rfl, State.setFlagBoth_flag, beq_false_of_ne h, Bool.or_false]

theorem Machine.State.putPermit_flag (s : State) (x : Permit) {f : EventFlag} (h : .permit ≠ f) (q : PortId) :
    ((s.putPermit x).port q).flag f = (s.port q).flag f := by
  unfold State.putPermit
  rw [State.setFlagIf_flag_ne _ _ h]
  cases q <;> rfl

theorem Machine.State.loaded_port (s : State) (q : PortId) : s.loaded.port q = s.port q := by
  rw [s.loaded_eq]
  cases q <;> rfl

theorem Machine.State.completeLoad_flag (s : State) (q : PortId) :
    (s.completeLoad.port q).flag .wheel = (s.port q).flag .wheel := by
  have ports : s.loaded.startRecords.port q = s.loaded.port q := by cases q <;> rfl
  rw [State.completeLoad_eq, State.setFlagBoth_flag, State.firstEvaluation, State.putPermit_flag _ _ (by decide), ports,
    State.loaded_port]
  exact Bool.or_false _

end Sys2Proof

/-! ## What a completed load holds -/

namespace Sys2Proof
open Machine Safety

theorem Machine.State.loaded_image {s : State} {i : Image} (h : s.nonvolatile.validImage = some i) : s.loaded = s.takeImage i := by
  simp [State.loaded, h]

theorem Machine.State.loaded_defaults {s : State} (h : s.nonvolatile.validImage = none) : s.loaded = s.takeDefaults := by
  simp [State.loaded, h]

theorem replicate_eq_map {α β : Type} {n : Nat} (v : Vector α n) (x : β) : Vector.replicate n x = v.map fun _ => x := by
  ext i hi
  simp

theorem Machine.StoredAxle.loaded_cases (c : StoredAxle) :
    (Claims.CodesInRange c → c.decode = some c.loaded) ∧ (¬ Claims.CodesInRange c → c.loaded = AxleRecord.default) := by
  unfold StoredAxle.loaded
  rw [← StoredAxle.decode_isSome]
  cases h : c.decode with
  | none => exact ⟨fun some => by simp at some, fun _ => rfl⟩
  | some r => exact ⟨fun _ => rfl, fun no => absurd ⟨r, rfl⟩ no⟩

/-- Placing by the axle table the load has taken is what the image's corrections do (R8). -/
theorem Machine.Image.placedId_iff {i : Image} {t : State} (ht : ∀ a : Fin 10, t.axle a = (i.axles[a]).loaded) (p : Pos)
    (id : SensorId) : i.placedId p = some id ↔ Claims.Placeable i t p id := by
  rw [Image.placedId_eq_some, validId_iff, validSlot_iff, ← ht]
  simp only [Claims.Placeable, and_assoc]

theorem profile_loaded (p : Profile) : ∃ x : Profile,
    (∀ j : Fin 11, x[j] = Claims.nearest (Claims.fieldRanges[j]).1 (Claims.fieldRanges[j]).2 p[j])
    ∧ p.loaded = if x[2] < x[3] ∧ x[8] < x[9] ∧ x[5] < x[2] then x else Profile.default := by
  refine ⟨p.clamped, fun j => ?_, ?_⟩
  · rw [Profile.clamped_field, clampField_eq_nearest]
  · unfold Profile.loaded
    by_cases h : p.clamped.passesChecks = true
    · rw [if_pos h, if_pos ((passesChecks_iff _).1 h)]
    · rw [if_neg h, if_neg fun c => h ((passesChecks_iff _).2 c)]

theorem freshRecord_eq (s : State) (p : Pos) :
    WheelRecord.fresh (startState (s.detachedSlot p)) s.uptime = Claims.freshRecord s p := rfl

/-- A record that the load starts is fresh by the state it leaves (R98). -/
theorem Machine.State.completeLoad_record (s : State) (p : Pos) :
    s.completeLoad.wheel p = match s.completeLoad.slotId p with
      | none => .empty
      | some _ => Claims.freshRecord s.completeLoad p := by
  have rest : s.completeLoad.rest = s.loaded.rest := s.completeLoad_judges.rest.trans (State.setFlagBoth_rest _ _)
  have fresh : Claims.freshRecord s.completeLoad p = Claims.freshRecord s.loaded p := by
    unfold Claims.freshRecord
    rw [State.detachedSlot_of_rest rest, State.uptime_of_rest rest]
  rw [s.completeLoad_wheel, s.completeLoad_slotId, State.startRecords_wheel, fresh]
  cases s.loaded.slotId p <;> rfl

/-- Settles O55: the load is taken by `State.loaded`, the records start from it, and the first evaluation withholds. -/
theorem loadCompletionTakesTheImage : Obligations.LoadCompletionTakesTheImage := by
  unfold Obligations.LoadCompletionTakesTheImage
  intro s
  refine ⟨fun idle => ?_, fun loading => ⟨s.completeLoad, ?_, ?_, ?_, s.completeLoad_flag, s.completeLoad_permit.1,
    s.completeLoad_permit.2.1, s.completeLoad_permit.2.2, s.completeLoad_record, fun h => ?_, fun i h => ?_⟩⟩
  · exact if_neg (by simp [idle])
  · exact if_pos loading
  · have rest : s.completeLoad.rest = s.loaded.rest := s.completeLoad_judges.rest.trans (State.setFlagBoth_rest _ _)
    have axles : s.completeLoad.axles = s.loaded.axles := (congrArg State.axles rest :)
    have slots : s.completeLoad.slots = s.loaded.slots := (congrArg State.slots rest :)
    have protect : s.completeLoad.protect = s.loaded.protect := (congrArg State.protect rest :)
    have profiles : s.completeLoad.profiles = s.loaded.profiles := (congrArg State.profiles rest :)
    have config : s.completeLoad.config = s.loaded.config := (congrArg State.config rest :)
    have generation : s.completeLoad.generation = s.loaded.generation := (congrArg State.generation rest :)
    have store : s.completeLoad.store = s.loaded.store := (congrArg State.store rest :)
    rw [axles, slots, protect, profiles, config, generation, store, ← s.loaded_eq]
    exact s.completeLoad_judges.judgedFrom
  · rw [State.completeLoad_eq, State.setFlagBoth_alerts, State.firstEvaluation, State.putPermit_alerts]
    exact s.loaded_alerts
  all_goals
    have rest : s.completeLoad.rest = s.loaded.rest := s.completeLoad_judges.rest.trans (State.setFlagBoth_rest _ _)
  · rw [State.loaded_defaults h] at rest
    refine ⟨?_, ?_, (congrArg State.protect rest :), ?_, (congrArg State.config rest :), (congrArg State.generation rest :),
      (congrArg State.store rest :)⟩
    · exact (congrArg State.axles rest :).trans (replicate_eq_map _ _)
    · exact (congrArg State.slots rest :).trans (replicate_eq_map _ _)
    · exact (congrArg State.profiles rest :).trans (replicate_eq_map _ _)
  · rw [State.loaded_image h] at rest
    have axle (a : Fin 10) : s.completeLoad.axle a = (i.axles[a]).loaded :=
      (State.axle_of_rest rest a).trans (State.takeImage_axle s i a)
    have profiles : s.completeLoad.profiles = (s.takeImage i).profiles := (congrArg State.profiles rest :)
    have protect : s.completeLoad.protect = loadedProtect i.protect := (congrArg State.protect rest :)
    refine ⟨(congrArg State.generation rest :), (congrArg State.store rest :), fun a => ?_, ?_, fun p id => ?_, fun f => ?_, ?_⟩
    · rw [axle]
      exact (i.axles[a]).loaded_cases
    · rw [protect]
      unfold loadedProtect
      cases i.protect <;> rfl
    · rw [s.completeLoad_slotId, State.loaded_image h, State.takeImage_slotId, Image.loadedId_eq_some]
      simp only [Image.placedId_iff axle, ne_eq]
    · have held : s.completeLoad.profiles[f] = (i.profiles[f]).loaded := by
        rw [profiles]
        simp [State.takeImage]
      rw [held]
      exact profile_loaded _
    · exact (congrArg State.config rest :).trans (configClamped_eq i.config)

end Sys2Proof

/-! ## Edits of one slot -/

namespace Sys2Proof
open Machine Safety

/-! ### Records that change only in IMBALANCE -/

theorem upToImbalance_refl (r : WheelRecord) : Claims.UpToImbalance r r :=
  ⟨r.conditions.has .imbalance, by rw [Conditions.put_same rfl]⟩

theorem upToImbalance_put (r : WheelRecord) (b : Bool) :
    Claims.UpToImbalance { r with conditions := r.conditions.put .imbalance b } r := ⟨b, rfl⟩

/-! ### Flags of an event -/

theorem Machine.State.Grown.flag {t u : State} (h : t.Grown u) {q : PortId} {f : EventFlag} (hf : (u.port q).flag f = true) :
    (t.port q).flag f = true := by
  obtain ⟨m, _, hm⟩ := h
  simp only [Port.flag] at hf ⊢
  rw [hm, BitVec.getLsbD_or, hf, Bool.true_or]

theorem Machine.State.Grown.flagged {t u : State} (h : t.Grown u) {f : EventFlag} (hf : Claims.Flagged u f) :
    Claims.Flagged t f := fun q => h.flag (hf q)

theorem Claims.flagged_setFlagBoth (s : State) (f : EventFlag) : Claims.Flagged (s.setFlagBoth f) f := fun q => by
  rw [State.setFlagBoth_flag, beq_self_eq_true, Bool.or_true]

theorem Machine.State.answer_flags (s : State) (q r : PortId) (st : Status) (bs : List Byte) :
    ((s.answer q st bs).port r).flags = (s.port r).flags := by
  rw [State.answer_port]
  split
  · next e => rw [e]
  · rfl

theorem Claims.Flagged.answer {s : State} {f : EventFlag} (h : Claims.Flagged s f) (q : PortId) (st : Status) (bs : List Byte) :
    Claims.Flagged (s.answer q st bs) f := fun r => by
  have := h r
  simp only [Port.flag] at this ⊢
  rw [State.answer_flags, this]

theorem Machine.State.setFlag_grows (s : State) (q : PortId) (e f : EventFlag) {r : PortId} (h : (s.port r).flag f = true) :
    ((s.setFlag q e).port r).flag f = true := by
  rw [State.setFlag_port]
  split
  · next e' => subst e'; rw [Port.flag_or_bit, h, Bool.true_or]
  · exact h

theorem Machine.State.editTaken_grown (s : State) (w : Bool) :
    (s.editTaken w).Grown (((State.setFlagBoth { s with generation := s.generation + 1 } .image)).setFlagIf w .wheel) :=
  State.evaluate_grown _

theorem Claims.flagged_editTaken (s : State) : Claims.Flagged (s.editTaken true) .wheel :=
  (s.editTaken_grown true).flagged (Claims.flagged_setFlagBoth _ _)

@[simp] theorem Machine.State.editTaken_wheels (s : State) (w : Bool) : (s.editTaken w).wheels = s.wheels := by
  simp [State.editTaken]

@[simp] theorem Machine.State.editTaken_alerts (s : State) (w : Bool) : (s.editTaken w).alerts = s.alerts := by
  simp [State.editTaken]

theorem Machine.State.wheel_of_wheels {s t : State} (h : t.wheels = s.wheels) (p : Pos) : t.wheel p = s.wheel p := by
  simp [State.wheel, h]

/-! ### Checks as the statements name them -/

theorem protectedAxle_iff (s : State) (a : Nat) : s.protectedAxle a = true ↔ Claims.Protected s a := by
  unfold State.protectedAxle Claims.Protected
  cases s.protect with
  | none => simp
  | some r => simp [AxleRange.covers, Claims.Within]

theorem sessionAxle_iff (s : State) (a : Nat) : s.sessionAxle a = true ↔ Claims.InSession s a := by
  unfold State.sessionAxle Claims.InSession
  cases s.learn.session with
  | none => simp
  | some l => simp [AxleRange.covers, Claims.Within]

theorem axleOf_eq_some {n : Nat} {a : Fin 10} : axleOf n = some a ↔ n = a.val := by
  unfold axleOf
  split
  · simp [Fin.ext_iff]
  · next h => simp; omega

theorem slotOf_eq_some {n : Nat} {k : Fin 4} : slotOf n = some k ↔ n = k.val := by
  unfold slotOf
  split
  · simp [Fin.ext_iff]
  · next h => simp; omega

theorem posOf_eq_some {a k : Byte} {p : Pos} : posOf a k = some p ↔ a.toNat = p.axle.val ∧ k.toNat = p.slot.val := by
  rw [← axleOf_eq_some, ← slotOf_eq_some]
  unfold posOf
  split
  · next x y hx hy =>
    rw [hx, hy]
    constructor
    · rintro ⟨⟩; exact ⟨rfl, rfl⟩
    · rintro ⟨⟨⟩, ⟨⟩⟩; rfl
  · next none =>
    constructor
    · rintro ⟨⟩
    · exact fun h => (none _ _ h.1 h.2).elim

theorem validPosOf_eq_some {s : State} {a k : Byte} {p : Pos} :
    s.validPosOf a k = some p ↔ a.toNat = p.axle.val ∧ k.toNat = p.slot.val ∧ Claims.ValidSlot (s.axle p.axle) p.slot := by
  rw [← validSlot_iff, ← and_assoc, ← posOf_eq_some]
  unfold State.validPosOf
  cases posOf a k with
  | none => simp
  | some r =>
    show (if s.validPos r = true then some r else none) = some p ↔ _
    by_cases e : r = p
    · subst e
      by_cases v : (s.axle r.axle).validSlot r.slot = true <;> simp [State.validPos, v]
    · simp [e]

/-! ### Slots written -/

theorem Machine.State.setSlot_self {s : State} {p : Pos} {id : Option SensorId} (h : s.slotId p = id) : s.setSlot p id = s := by
  subst h
  have same : s.slots.set p.idx.val (s.slotId p) p.idx.isLt = s.slots := Vector.set_getElem_self _
  unfold State.setSlot
  rw [same]

/-- What an edit of one slot answers, by the slot it writes (R14). -/
theorem Claims.edited_setSlot (s : State) (q : PortId) (p : Pos) (id : Option SensorId) :
    { Claims.edited s q with slots := s.slots.set p.idx.val id p.idx.isLt }
      = (State.setFlagBoth { s.setSlot p id with generation := (s.setSlot p id).generation + 1 } .image).answer q .ok [] := by
  cases q <;> rfl

theorem Machine.State.setSlot_rest {s t : State} (h : t.rest = s.rest) (p : Pos) (id : Option SensorId) :
    (t.setSlot p id).rest = (s.setSlot p id).rest := congrArg (fun x : State => x.setSlot p id) h

/-- A record cleared, and then written with its slot. -/
theorem Machine.State.clearRecord_judges (s : State) (p : Pos) (r : WheelRecord) (id : Option SensorId) :
    (((s.clearRecord p).setWheel p r).setSlot p id).Judges (s.setSlot p id) where
  rest := State.setSlot_rest ((State.setWheel_rest _ p r).trans (s.clearRecord_rest p)) p id
  grown := by
    have cleared : (s.clearRecord p).Grown s := (s.clearRecords_clears [p]).grown
    generalize s.clearRecord p = t at cleared
    exact (State.Grown.of_ports rfl rfl).trans (cleared.trans (.of_ports rfl rfl))

theorem Machine.State.freshAt_judges (s : State) (p : Pos) (id : SensorId) : (s.freshAt p id).Judges (s.setSlot p (some id)) :=
  s.clearRecord_judges p _ _

theorem Machine.State.emptyAt_judges (s : State) (p : Pos) : (s.emptyAt p).Judges (s.setSlot p none) :=
  s.clearRecord_judges p _ _

/-- One record written and those of its pair cleared of IMBALANCE is what the statements ask of an edit of one slot. -/
theorem Claims.oneRecord {s t : State} {p : Pos} {r : WheelRecord} (own : t.wheel p = r) (flag : Claims.Flagged t .wheel)
    (other : ∀ q, q ≠ p → t.wheel q = (s.clearRecords [p]).wheel q) : Claims.OneRecord s t p r := by
  have wheel (q : Pos) (hq : q ≠ p) : t.wheel q
      = if (s.axle q.axle).kind = .dual ∧ (q.pairLow = p ∨ q.pairHigh = p)
        then { s.wheel q with conditions := (s.wheel q).conditions.put .imbalance false } else s.wheel q := by
    rw [other q hq, State.clearRecords_wheel, if_neg (by simpa using hq)]
    simp only [List.mem_singleton]
  refine ⟨own, flag, fun q hq => ?_, fun q hq pair dual => ?_, fun q hq apart => ?_⟩
  · rw [wheel q hq]
    split
    · exact upToImbalance_put _ _
    · exact upToImbalance_refl _
  · have axle : q.axle = p.axle := by rcases pair with rfl | rfl <;> rfl
    have mine := ((Pos.pair_comm p q).1 pair).imp Eq.symm Eq.symm
    unfold State.active
    rw [wheel q hq, axle, if_pos ⟨dual, mine⟩, Conditions.has_put, if_pos rfl]
  · rw [wheel q hq, if_neg]
    rintro ⟨dual, pair⟩
    have axle : p.axle = q.axle := by rcases pair with rfl | rfl <;> rfl
    rcases apart with ⟨low, high⟩ | single
    · exact ((Pos.pair_comm p q).2 (pair.imp Eq.symm Eq.symm)).elim low high
    · rw [← axle, single] at dual
      cases dual

/-- An edit that changes no slot. -/
theorem editTaken_nothing {s : State} {p : Pos} {id : Option SensorId} (h : s.slotId p = id) (q : PortId) :
    JudgedFrom ((s.editTaken false).answer q .ok [])
      { Claims.edited s q with slots := s.slots.set p.idx.val id p.idx.isLt } := by
  rw [Claims.edited_setSlot, State.setSlot_self h]
  exact (((State.Judges.refl s).editTaken false).answer q .ok []).judgedFrom

/-- An edit that writes one slot and its record. -/
theorem editTaken_one {s t : State} {p : Pos} {id : Option SensorId} (h : t.Judges (s.setSlot p id)) (q : PortId) {r : WheelRecord}
    (own : t.wheel p = r) (other : ∀ d, d ≠ p → t.wheel d = (s.clearRecords [p]).wheel d) :
    JudgedFrom ((t.editTaken true).answer q .ok [])
      { Claims.edited s q with slots := s.slots.set p.idx.val id p.idx.isLt }
    ∧ Claims.OneRecord s ((t.editTaken true).answer q .ok []) p r := by
  have wheels : ((t.editTaken true).answer q .ok []).wheels = t.wheels := by simp
  have wheel := State.wheel_of_wheels wheels
  rw [Claims.edited_setSlot]
  exact ⟨((h.editTaken true).answer q .ok []).judgedFrom, Claims.oneRecord ((wheel p).trans own)
    ((Claims.flagged_editTaken t).answer q _ _) fun d hd => (wheel d).trans (other d hd)⟩

theorem assign_taken (s : State) (q : PortId) (p : Pos) (id : SensorId) :
    JudgedFrom ((s.assign p id).answer q .ok []) { Claims.edited s q with slots := s.slots.set p.idx.val (some id) p.idx.isLt }
    ∧ (s.slotId p = some id → ((s.assign p id).answer q .ok []).wheels = s.wheels
        ∧ ((s.assign p id).answer q .ok []).alerts = s.alerts)
    ∧ (s.slotId p ≠ some id → Claims.OneRecord s ((s.assign p id).answer q .ok []) p (Claims.freshRecord s p)) := by
  unfold State.assign
  split
  · next held => exact ⟨editTaken_nothing held q, fun _ => ⟨by simp, by simp⟩, fun ne => absurd held ne⟩
  · next free =>
    have taken := editTaken_one (s.freshAt_judges p id) q (r := Claims.freshRecord s p)
      (by rw [State.freshAt_wheel, if_pos rfl, freshRecord_eq])
      (fun d hd => by rw [State.freshAt_wheel, if_neg (Ne.symm hd)])
    exact ⟨taken.1, fun held => absurd held free, fun _ => taken.2⟩

theorem remove_taken (s : State) (q : PortId) (p : Pos) :
    JudgedFrom ((s.remove p).answer q .ok []) { Claims.edited s q with slots := s.slots.set p.idx.val none p.idx.isLt }
    ∧ (s.slotId p = none → ((s.remove p).answer q .ok []).wheels = s.wheels ∧ ((s.remove p).answer q .ok []).alerts = s.alerts)
    ∧ (s.slotId p ≠ none → Claims.OneRecord s ((s.remove p).answer q .ok []) p .empty) := by
  unfold State.remove
  split
  · next id held =>
    have taken := editTaken_one (s.emptyAt_judges p) q (r := .empty)
      (by rw [State.emptyAt_eq, State.emptyAll_wheel, if_pos (List.mem_singleton_self p)])
      (fun d hd => by rw [State.emptyAt_eq, State.emptyAll_wheel, if_neg (by simpa using hd)])
    exact ⟨taken.1, fun free => absurd (held.symm.trans free) (by simp), fun _ => taken.2⟩
  · next free => exact ⟨editTaken_nothing free q, fun _ => ⟨by simp, by simp⟩, fun ne => absurd free ne⟩

/-- The check IN_USE of MAP_ASSIGN (R13): no other slot holds the ID. -/
theorem free_iff {s : State} (h : MapLaw s) {id : SensorId} (valid : validId id = true) (p : Pos) :
    ((s.lookup id).isNone || s.lookup id == some p) = true ↔ ¬ ∃ q, q ≠ p ∧ s.slotId q = some id := by
  rw [Bool.or_eq_true, Option.isNone_iff_eq_none, beq_iff_eq]
  constructor
  · rintro free ⟨q, ne, hq⟩
    exact ne (h.alone valid free q hq)
  · intro alone
    cases found : s.lookup id with
    | none => exact .inl rfl
    | some q =>
      right
      by_contra ne
      exact alone ⟨q, fun e => ne (e ▸ rfl), (State.lookup_some found).2⟩

/-- MAP_ASSIGN at a valid slot, outside the load. -/
theorem exec_mapAssign {s : State} {q : PortId} (takes : Claims.Takes s q) (l : s.loading = false) {a k : Byte} {p : Pos}
    (here : s.validPosOf a k = some p) {expected : Generation} {id : SensorId} {r : Option Status}
    (hr : s.assignFailure expected p id = r) :
    exec (.mapAssign q expected a k id) s
      = .next (r.elim ((s.assign p id).answer q .ok []) fun st => s.answer q st []) := by
  refine (next_loaded takes l _).trans ?_
  rw [here]
  dsimp only
  rw [hr]
  cases r <;> rfl

/-- MAP_REMOVE at a valid slot, outside the load. -/
theorem exec_mapRemove {s : State} {q : PortId} (takes : Claims.Takes s q) (l : s.loading = false) {a k : Byte} {p : Pos}
    (here : s.validPosOf a k = some p) {expected : Generation} {r : Option Status}
    (hr : s.axleEditFailure expected p.axle = r) :
    exec (.mapRemove q expected a k) s = .next (r.elim ((s.remove p).answer q .ok []) fun st => s.answer q st []) := by
  refine (next_loaded takes l _).trans ?_
  rw [here]
  dsimp only
  rw [hr]
  cases r <;> rfl

/-- Settles O45: the checks in their order, then `assign_taken` and `remove_taken`. -/
theorem assignAndRemoveEditOneSlot : Obligations.AssignAndRemoveEditOneSlot := by
  unfold Obligations.AssignAndRemoveEditOneSlot
  intro s q expected a k id takes map
  dsimp only
  refine ⟨fun l => ⟨next_busy takes l _, next_busy takes l _⟩, fun l nowhere => ?_, fun p l ha hk valid => ?_⟩
  · have none : s.validPosOf a k = none := by
      rw [Option.eq_none_iff_forall_ne_some]
      exact fun p hp => nowhere ⟨p, validPosOf_eq_some.1 hp⟩
    refine ⟨(next_loaded takes l _).trans ?_, (next_loaded takes l _).trans ?_⟩ <;> rw [none] <;> rfl
  · have here : s.validPosOf a k = some p := validPosOf_eq_some.2 ⟨ha, hk, valid⟩
    have assign (r : Option Status) (hr : s.assignFailure expected p id = r) := exec_mapAssign takes l here hr
    have remove (r : Option Status) (hr : s.axleEditFailure expected p.axle = r) := exec_mapRemove takes l here hr
    simp only [State.assignFailure, State.axleEditFailure, firstFailure_cons, firstFailure_nil] at assign remove
    have invalid (bad : id = 0x00000000 ∨ id = 0xFFFFFFFF) : validId id = false := by
      rw [Bool.eq_false_iff, ne_eq, validId_iff]
      exact fun ok => bad.elim ok.1 ok.2
    have good (ok : ¬ (id = 0x00000000 ∨ id = 0xFFFFFFFF)) : validId id = true := (validId_iff id).2 (not_or.1 ok)
    have unguarded (ng : ¬ Claims.Protected s p.axle.val) : s.protectedAxle p.axle.val = false := by
      rw [Bool.eq_false_iff, ne_eq, protectedAxle_iff]; exact ng
    have idle (nb : ¬ Claims.InSession s p.axle.val) : s.sessionAxle p.axle.val = false := by
      rw [Bool.eq_false_iff, ne_eq, sessionAxle_iff]; exact nb
    have guarded := (protectedAxle_iff s p.axle.val).2
    have busy := (sessionAxle_iff s p.axle.val).2
    refine ⟨fun bad => ?_, fun ok stale => ?_, fun ok cur g => ?_, fun ok cur ng b => ?_, fun ok cur ng nb used => ?_,
      fun ok cur ng nb free => ⟨_, assign none ?_, assign_taken s q p id⟩, fun stale => ?_, fun cur g => ?_,
      fun cur ng b => ?_, fun cur ng nb => ⟨_, remove none ?_, remove_taken s q p⟩⟩
    · exact assign (some .badId) (by rw [invalid bad]; rfl)
    · exact assign (some .stale) (by simp [good ok, stale])
    · exact assign (some .underProtection) (by simp [good ok, not_not.1 cur, guarded g])
    · exact assign (some .busy) (by simp [good ok, not_not.1 cur, unguarded ng, busy b])
    · have taken := mt (free_iff map (good ok) p).1 (not_not.2 used)
      exact assign (some .inUse) (by rw [if_neg taken]; simp [good ok, not_not.1 cur, unguarded ng, idle nb])
    · rw [if_pos ((free_iff map (good ok) p).2 free)]
      simp [good ok, not_not.1 cur, unguarded ng, idle nb]
    · exact remove (some .stale) (by simp [stale])
    · exact remove (some .underProtection) (by simp [not_not.1 cur, guarded g])
    · exact remove (some .busy) (by simp [not_not.1 cur, unguarded ng, busy b])
    · simp [not_not.1 cur, unguarded ng, idle nb]

end Sys2Proof

/-! ## The trailer item -/

namespace Sys2Proof
open Machine Safety

theorem wheelsChanged_of_ne {b a : State} {p : Pos} (h : (b.wheel p).judged ≠ (a.wheel p).judged) : wheelsChanged b a = true := by
  rw [wheelsChanged, allPos_any]
  exact ⟨p, by simpa using h⟩

theorem Machine.State.noteWheels_flagged {b a : State} {p : Pos} (h : (b.wheel p).judged ≠ (a.wheel p).judged) :
    Claims.Flagged (b.noteWheels a) .wheel := by
  unfold State.noteWheels
  rw [wheelsChanged_of_ne h]
  exact Claims.flagged_setFlagBoth a .wheel

theorem judged_ne_of_state {r u : WheelRecord} (h : r.state ≠ u.state) : r.judged ≠ u.judged := fun e =>
  h (congrArg Prod.fst e)

theorem otherPort_eq (q : PortId) : otherPort q = Claims.other q := by cases q <;> rfl

/-- The reply and flag of SET_VEHICLE are those the statements name. -/
theorem itemTaken_eq (s : State) (q : PortId) (item : Nat) (value : Half) :
    s.vehicleTaken q item value = Claims.itemTaken s q (BitVec.ofNat 8 item) value := by
  unfold State.vehicleTaken Claims.itemTaken
  rw [otherPort_eq]
  rfl

@[simp] theorem Machine.State.vehicleTaken_wheels (s : State) (q : PortId) (item : Nat) (v : Half) :
    (s.vehicleTaken q item v).wheels = s.wheels := by simp [State.vehicleTaken]

@[simp] theorem Machine.State.vehicleTaken_alerts (s : State) (q : PortId) (item : Nat) (v : Half) :
    (s.vehicleTaken q item v).alerts = s.alerts := by simp [State.vehicleTaken]

theorem Claims.Flagged.vehicleTaken {s : State} {f : EventFlag} (h : Claims.Flagged s f) (q : PortId) (item : Nat) (v : Half) :
    Claims.Flagged (s.vehicleTaken q item v) f :=
  Claims.Flagged.answer (fun r => State.setFlag_grows s _ _ f (h r)) q _ _

theorem Claims.Flagged.evaluate {s : State} {f : EventFlag} (h : Claims.Flagged s f) : Claims.Flagged s.evaluate f :=
  s.evaluate_grown.flagged h

/-! ### Judging that only attaches or detaches -/

theorem Machine.State.attachTrailer_judges (s : State) : s.attachTrailer.Judges s where
  rest := s.attachTrailer_rest
  grown := foldl_grown _ (fun t p => by unfold State.attachAt; split <;> exact .of_ports rfl rfl) _ s

theorem Machine.State.detachAll_judges (s : State) (ps : List Pos) : (s.detachAll ps).Judges s where
  rest := s.detachAll_rest ps
  grown := (foldl_grown _ (fun t p => t.modWheel_grown p _) _ _).trans (s.clearRecords_clears _).grown

theorem detach_eq (r : WheelRecord) : WheelRecord.detach { r with conditions := .none } = Claims.detached r := rfl

theorem detaches_iff (r : WheelRecord) : r.detaches = true ↔ r.state ≠ .empty ∧ r.state ≠ .detached := by
  simp [WheelRecord.detaches]

/-- What detaching the records of whole axles does to each (R19, R25). -/
theorem Machine.State.detachAxles_wheel (s : State) (ps : List Pos) (p : Pos)
    (whole : ∀ q : Pos, q.axle = p.axle → (q ∈ ps ↔ p ∈ ps)) :
    (p ∉ ps → (s.detachAll ps).wheel p = s.wheel p)
    ∧ (p ∈ ps → (s.wheel p).detaches = true → (s.detachAll ps).wheel p = Claims.detached (s.wheel p))
    ∧ (p ∈ ps → (s.wheel p).detaches = false → Claims.UpToImbalance ((s.detachAll ps).wheel p) (s.wheel p)) := by
  rw [State.detachAll_wheel]
  dsimp only
  refine ⟨fun out => ?_, fun inn moves => ?_, fun inn stays => ?_⟩
  · have away (q : Pos) (hq : q.axle = p.axle) : q ∉ ps.filter fun d => (s.wheel d).detaches := fun m =>
      out ((whole q hq).1 (List.mem_filter.1 m).1)
    rw [if_neg (away p rfl), if_neg fun c => c.2.elim (away p.pairLow rfl) (away p.pairHigh rfl)]
  · rw [if_pos (List.mem_filter.2 ⟨inn, moves⟩), detach_eq]
  · have kept : p ∉ ps.filter fun d => (s.wheel d).detaches := fun m => by
      rw [(List.mem_filter.1 m).2] at stays
      cases stays
    rw [if_neg kept]
    split
    · exact upToImbalance_put _ _
    · exact upToImbalance_refl _

/-! ### The item written -/

theorem Machine.State.withTrailer_wheel (s : State) (q : PortId) (x : TrailerState) (p : Pos) :
    (s.withTrailer q x).wheel p = s.wheel p := rfl

/-- What the statement asks of the trailer's arrival. -/
theorem trailerArrives_taken (s : State) (q : PortId) (v : Half) :
    let u := s.withTrailer q .present
    let t := ((u.noteWheels u.attachTrailer).evaluate).vehicleTaken q 2 v
    JudgedFrom t (u.vehicleTaken q 2 v) ∧ t.alerts = s.alerts
    ∧ (∀ p, (s.wheel p).state = .detached →
        t.wheel p = { s.wheel p with state := .awaiting, silenceRef := some s.uptime } ∧ Claims.Flagged t .wheel)
    ∧ (∀ p, (s.wheel p).state ≠ .detached → t.wheel p = s.wheel p) := by
  dsimp only
  generalize hu : s.withTrailer q .present = u
  have wheels : (((u.noteWheels u.attachTrailer).evaluate).vehicleTaken q 2 v).wheels = u.attachTrailer.wheels := by simp
  have wheel (p : Pos) : u.attachTrailer.wheel p
      = if (s.wheel p).state = .detached then (s.wheel p).attach s.uptime else s.wheel p := by
    unfold State.attachTrailer
    rw [State.attachEach_wheel, ← hu]
    simp only [mem_allPos, true_and, State.withTrailer_wheel]
    rfl
  have alerts : u.attachTrailer.alerts = s.alerts := by
    unfold State.attachTrailer
    rw [State.attachEach_alerts, ← hu]
    rfl
  refine ⟨(((u.attachTrailer_judges.noteWheels u).evaluate).vehicleTaken q 2 v).judgedFrom, by simp [alerts],
    fun p hp => ⟨?_, ?_⟩, fun p hp => ?_⟩
  · rw [State.wheel_of_wheels wheels, wheel, if_pos hp]
    rfl
  · have changed : (u.wheel p).judged ≠ (u.attachTrailer.wheel p).judged := by
      rw [wheel, if_pos hp, ← hu, State.withTrailer_wheel]
      exact judged_ne_of_state (by rw [hp]; exact nofun)
    exact ((State.noteWheels_flagged changed).evaluate).vehicleTaken q 2 v
  · rw [State.wheel_of_wheels wheels, wheel, if_neg hp]

theorem sessionHasTrailer_iff (s : State) :
    Claims.SessionHasTrailer s ↔ ∃ l, s.learn.session = some l ∧ s.rangeHasTrailer l.range = true := by
  unfold Claims.SessionHasTrailer Claims.InSession Claims.Within State.rangeHasTrailer
  constructor
  · rintro ⟨a, ⟨l, hl, inside⟩, present, trailer⟩
    exact ⟨l, hl, List.any_eq_true.2 ⟨a, List.mem_finRange a, by simp [AxleRange.covers, inside, present, trailer]⟩⟩
  · rintro ⟨l, hl, some⟩
    obtain ⟨a, _, ha⟩ := List.any_eq_true.1 some
    simp only [AxleRange.covers, Bool.and_eq_true, decide_eq_true_eq, beq_iff_eq] at ha
    exact ⟨a, ⟨l, hl, ha.1.1⟩, ha.1.2, ha.2⟩

/-- Ending the session of a judged state, with the reply of the item. -/
theorem Machine.State.Judges.endSession {t u : State} (h : t.Judges u) (o : LearnOutcome) :
    (t.endSession o).Judges (u.endSession o) := by
  have ended : State.Judges { t with learn := ⟨none, o⟩ } { u with learn := ⟨none, o⟩ } :=
    ⟨congrArg (fun x : State => { x with learn := ⟨none, o⟩ }) h.rest, h.grown⟩
  exact ended.setFlagBoth .learn

theorem Machine.State.setFlagBoth_flags (s : State) (e : EventFlag) (r : PortId) :
    ((s.setFlagBoth e).port r).flags = (s.port r).flags ||| e.bit := by rw [State.setFlagBoth_port]

theorem Machine.State.setFlag_flags (s : State) (q r : PortId) (e : EventFlag) :
    ((s.setFlag q e).port r).flags = if q = r then (s.port r).flags ||| e.bit else (s.port r).flags := by
  rw [State.setFlag_port]
  split
  · next same => rw [same]
  · rfl

/-- A flag set on both ports before or after the reply of an item. -/
theorem setFlagBoth_vehicleTaken (u : State) (e : EventFlag) (q : PortId) (item : Nat) (v : Half) :
    ((u.setFlagBoth e).vehicleTaken q item v).Judges ((u.vehicleTaken q item v).setFlagBoth e) := by
  refine ⟨?_, 0, by decide, fun r => ?_⟩
  · rw [State.setFlagBoth_rest]
    exact State.answer_rest (by rw [State.setFlag_rest, State.setFlag_rest, State.setFlagBoth_rest]) q _ _
  · unfold State.vehicleTaken
    rw [State.setFlagBoth_flags, State.answer_flags, State.answer_flags, State.setFlag_flags, State.setFlag_flags,
      State.setFlagBoth_flags, show ∀ x : BitVec 11, x ||| 0 = x from fun _ => BitVec.or_zero]
    split
    · rw [BitVec.or_assoc, BitVec.or_comm e.bit, BitVec.or_assoc]
    · rfl

theorem vehicleTaken_withLearn (u : State) (l : Learn) (q : PortId) (item : Nat) (v : Half) :
    State.vehicleTaken { u with learn := l } q item v = { u.vehicleTaken q item v with learn := l } := by
  cases q <;> rfl

/-- LEARN set before or after the reply of the item. -/
theorem endSession_vehicleTaken (u : State) (o : LearnOutcome) (q : PortId) (item : Nat) (v : Half) :
    ((u.endSession o).vehicleTaken q item v).Judges
      (State.setFlagBoth { u.vehicleTaken q item v with learn := ⟨none, o⟩ } .learn) := by
  rw [← vehicleTaken_withLearn]
  exact setFlagBoth_vehicleTaken _ .learn q item v

/-- What the statement asks of the trailer's leaving. -/
theorem trailerLeaves_taken (s : State) (q : PortId) (v : Half) :
    let u := s.withTrailer q .absent
    let t := (((u.noteWheels u.detachTrailer).cancelTrailerSession).evaluate).vehicleTaken q 2 v
    (Claims.SessionHasTrailer s →
        JudgedFrom t (State.setFlagBoth { u.vehicleTaken q 2 v with learn := ⟨none, .cancelled⟩ } .learn))
    ∧ (¬ Claims.SessionHasTrailer s → JudgedFrom t (u.vehicleTaken q 2 v))
    ∧ ∀ p,
      let concerned := (s.axle p.axle).present = true ∧ (s.axle p.axle).unit = .trailer
      (¬ concerned → t.wheel p = s.wheel p)
      ∧ (concerned → (s.wheel p).state ≠ .empty → (s.wheel p).state ≠ .detached →
          t.wheel p = Claims.detached (s.wheel p) ∧ Claims.Flagged t .wheel)
      ∧ (concerned → (s.wheel p).state = .empty ∨ (s.wheel p).state = .detached →
          Claims.UpToImbalance (t.wheel p) (s.wheel p)) := by
  dsimp only
  generalize hu : s.withTrailer q .absent = u
  have own (p : Pos) : u.wheel p = s.wheel p := by rw [← hu]; rfl
  have axle (a : Fin 10) : u.axle a = s.axle a := by rw [← hu]; rfl
  have judges : (u.noteWheels u.detachTrailer).Judges u := (u.detachAll_judges _).noteWheels u
  have session : (u.noteWheels u.detachTrailer).learn = s.learn := by
    have same : (u.noteWheels u.detachTrailer).learn = u.learn := (congrArg State.learn judges.rest :)
    rw [same, ← hu]
    rfl
  have trailers (r : AxleRange) : (u.noteWheels u.detachTrailer).rangeHasTrailer r = s.rangeHasTrailer r := by
    simp only [State.rangeHasTrailer, State.axle_of_rest judges.rest, axle]
  have ends (h : Claims.SessionHasTrailer s) :
      (u.noteWheels u.detachTrailer).cancelTrailerSession = (u.noteWheels u.detachTrailer).endSession .cancelled := by
    obtain ⟨l, hl, has⟩ := (sessionHasTrailer_iff s).1 h
    unfold State.cancelTrailerSession
    rw [session, hl]
    exact if_pos ((trailers _).trans has)
  have stays (h : ¬ Claims.SessionHasTrailer s) :
      (u.noteWheels u.detachTrailer).cancelTrailerSession = u.noteWheels u.detachTrailer := by
    unfold State.cancelTrailerSession
    rw [session]
    split
    · next l hl => exact if_neg fun has => h ((sessionHasTrailer_iff s).2 ⟨l, hl, (trailers _).symm.trans has⟩)
    · rfl
  have wheels : ((((u.noteWheels u.detachTrailer).cancelTrailerSession).evaluate).vehicleTaken q 2 v).wheels
      = u.detachTrailer.wheels := by
    have cancel : (u.noteWheels u.detachTrailer).cancelTrailerSession.wheels = u.detachTrailer.wheels := by
      by_cases h : Claims.SessionHasTrailer s
      · rw [ends h]; simp [State.endSession]
      · rw [stays h]; simp
    simpa using cancel
  have flagged (h : Claims.Flagged (u.noteWheels u.detachTrailer) .wheel) :
      Claims.Flagged ((((u.noteWheels u.detachTrailer).cancelTrailerSession).evaluate).vehicleTaken q 2 v) .wheel := by
    refine Claims.Flagged.vehicleTaken (Claims.Flagged.evaluate ?_) q 2 v
    by_cases c : Claims.SessionHasTrailer s
    · rw [ends c]
      intro r
      unfold State.endSession
      rw [State.setFlagBoth_flag]
      exact Bool.or_eq_true_iff.2 (.inl (h r))
    · rw [stays c]; exact h
  refine ⟨fun h => ?_, fun h => ?_, fun p => ?_⟩
  · rw [ends h]
    exact (((judges.endSession _).evaluate.vehicleTaken q 2 v).trans (endSession_vehicleTaken u _ q 2 v)).judgedFrom
  · rw [stays h]
    exact ((judges.evaluate).vehicleTaken q 2 v).judgedFrom
  · have mem (d : Pos) : d ∈ (allPos.filter fun p => (u.axle p.axle).present && (u.axle p.axle).unit == .trailer)
        ↔ (s.axle d.axle).present = true ∧ (s.axle d.axle).unit = .trailer := by simp [axle]
    obtain ⟨out, moved, kept⟩ := u.detachAxles_wheel
      (allPos.filter fun p => (u.axle p.axle).present && (u.axle p.axle).unit == .trailer) p
      (fun d hd => by rw [mem, mem, hd])
    rw [mem, own] at out moved kept
    rw [State.wheel_of_wheels wheels]
    refine ⟨out, fun c e d => ⟨moved c ((detaches_iff _).2 ⟨e, d⟩), flagged (State.noteWheels_flagged (p := p) ?_)⟩,
      fun c e => kept c ?_⟩
    · rw [own, show u.detachTrailer.wheel p = _ from moved c ((detaches_iff _).2 ⟨e, d⟩)]
      exact judged_ne_of_state d
    · rw [Bool.eq_false_iff, ne_eq, detaches_iff]
      exact fun both => e.elim both.1 both.2

theorem writeTrailer_taken (s : State) (q : PortId) (x : TrailerState) (v : Half) :
    let u := (s.withTrailer q x).vehicleTaken q 2 v
    let t := (s.writeTrailer q x).vehicleTaken q 2 v
    (x = s.vehicle.trailer → JudgedFrom t u ∧ t.wheels = s.wheels ∧ t.alerts = s.alerts)
    ∧ (x = .present → s.vehicle.trailer = .absent →
        t = (((s.withTrailer q x).noteWheels (s.withTrailer q x).attachTrailer).evaluate).vehicleTaken q 2 v)
    ∧ (x = .absent → s.vehicle.trailer = .present →
        t = ((((s.withTrailer q x).noteWheels (s.withTrailer q x).detachTrailer).cancelTrailerSession).evaluate).vehicleTaken
          q 2 v) := by
  dsimp only
  refine ⟨fun same => ?_, fun hx hs => ?_, fun hx hs => ?_⟩
  · have written : s.writeTrailer q x = (s.withTrailer q x).evaluate := by
      unfold State.writeTrailer
      rw [← same]
      cases x <;> rfl
    rw [written]
    refine ⟨(((State.Judges.refl (s.withTrailer q x)).evaluate).vehicleTaken q 2 v).judgedFrom, ?_, ?_⟩
    · rw [State.vehicleTaken_wheels, State.evaluate_wheels]; rfl
    · rw [State.vehicleTaken_alerts, State.evaluate_alerts]; rfl
  · unfold State.writeTrailer
    rw [hs, hx]
    rfl
  · unfold State.writeTrailer
    rw [hs, hx]
    rfl

/-- Settles O41: an item that does not change, `trailerArrives_taken` and `trailerLeaves_taken`. -/
theorem trailerWriteDetachesAndAttaches : Obligations.TrailerWriteDetachesAndAttaches := by
  unfold Obligations.TrailerWriteDetachesAndAttaches
  intro s q x takes value u
  have item : trailerOf value = some x := by cases x <;> rfl
  have taken : u = (s.withTrailer q x).vehicleTaken q 2 value := (itemTaken_eq _ q 2 value).symm
  obtain ⟨same, arrives, leaves⟩ := writeTrailer_taken s q x value
  rw [taken]
  refine ⟨(s.writeTrailer q x).vehicleTaken q 2 value, ?_, same, fun hx hs => ?_, fun hx hs => ?_⟩
  · refine (next_taken takes _).trans ?_
    rw [item]
  · rw [arrives hx hs]
    subst hx
    exact trailerArrives_taken s q value
  · rw [leaves hx hs]
    subst hx
    exact trailerLeaves_taken s q value

end Sys2Proof

/-! ## What a taken move leaves -/

namespace Sys2Proof
open Machine Safety
open Machine.State (Clears)

/-! ### A change of map, records, alert list and flags -/

/-- A state that agrees with another but for slot map, records, alert list and judged flags. -/
theorem Machine.State.judges_of_mapless {s t : State} (h : t.mapless = s.mapless) (g : t.Grown s) :
    t.Judges { s with slots := t.slots } where
  rest := (congrArg (fun x : State => { x with slots := t.slots }) h :)
  grown := g

theorem Claims.edited_withSlots (s : State) (q : PortId) (slots : Vector (Option SensorId) 40) :
    { Claims.edited s q with slots := slots }
      = (State.setFlagBoth { s with slots := slots, generation := s.generation + 1 } .image).answer q .ok [] := by
  cases q <;> rfl

theorem Machine.State.moved_grown (s : State) (m : Move) : (s.moved m).Grown s :=
  State.Grown.trans (.of_ports rfl rfl) (s.moveClearings_clears m).grown

/-- What a move answers, but for map, records and alert list (R14, R27). -/
theorem move_judgedFrom (s : State) (m : Move) (q : PortId) :
    JudgedFrom ((s.move m).answer q .ok []) { Claims.edited s q with slots := (s.moved m).slots } := by
  rw [Claims.edited_withSlots, State.move_eq]
  exact (((State.judges_of_mapless (s.moved_mapless m) (s.moved_grown m)).editTaken _).answer q .ok []).judgedFrom

/-! ### Carried records -/

theorem Machine.Conditions.ext_carried {c d : Conditions} (off : Bool)
    (h : ∀ k, c.has k = (d.has k && (!off && (k == .sensorFault || k == .batteryLow)))) :
    c = if off then .none else { Conditions.none with sensorFault := d.sensorFault, batteryLow := d.batteryLow } := by
  apply Conditions.ext_has
  intro k
  rw [h]
  cases off
  · cases k <;> simp [Conditions.has, Conditions.none]
  · simp

/-- The record that arrives (R18). -/
theorem moved_carriedRecord {s : State} {m : Move} (hm : m.Fits) {p : Pos} (hp : s.movesAway m p = true) :
    (s.moved m).wheel (m.destination p) = Claims.carriedRecord s p (m.destination p) := by
  have conditions : ((s.moveClearings m).wheel p).conditions = _ :=
    Conditions.ext_carried (d := (s.wheel p).conditions) (s.detachedSlot (m.destination p)) fun k =>
      (State.moveClearings_touched (State.movesAway_touched hp) k).trans (by
        rw [hp, Bool.true_and]
        rfl)
  rw [State.moved_wheel_arrived hm hp, (s.moveClearings_clears m).wheel p, conditions]
  rfl

theorem Machine.State.moveTouchesRecord_of_movesAway {s : State} {m : Move} {p : Pos} (hp : s.movesAway m p = true) :
    s.moveTouchesRecord m = true := by
  rw [State.moveTouchesRecord, allPos_any]
  exact ⟨p, by simp [State.movesAway_fromHere hp, State.movesAway_held hp]⟩

/-! ### The alert list -/

/-- Where a move lists a condition, if it stays active (R102, R108). -/
def Machine.State.movePlace (s : State) (m : Move) (p : Pos) (k : Condition) : Option Pos :=
  if (s.moveClearings m).active p k then some (s.movedTo m p) else none

theorem filter_map_eq_filterMap {α β : Type} (l : List α) (f : α → Bool) (g : α → β) :
    (l.filter f).map g = l.filterMap fun a => if f a then some (g a) else none := by
  induction l with
  | nil => rfl
  | cons a l ih => cases h : f a <;> simp [h, ih]

theorem moved_alertsPlaced {s : State} (law : AlertLaw s) (m : Move) : Claims.AlertsPlaced s (s.moved m) (s.movePlace m) := by
  have left := (s.moveClearings_clears m).listFiltered law
  have entries : (s.moved m).alerts.entries = (s.moveClearings m).alerts.entries.map fun e => { e with pos := s.movedTo m e.pos } := by
    rw [State.moved_alerts]; rfl
  have overflow : (s.moved m).alerts.overflow = (s.moveClearings m).alerts.overflow.map fun x => (s.movedTo m x.1, x.2) := by
    rw [State.moved_alerts]; rfl
  have marker : (s.moved m).alerts.marker = (s.moveClearings m).alerts.marker := by rw [State.moved_alerts]; rfl
  have length : (s.moved m).alerts.entries.length = (s.moveClearings m).alerts.entries.length := by rw [entries, List.length_map]
  refine ⟨?_, fun d k => ?_, fun same => ?_, fun fewer none => ?_, fun some => ?_⟩
  · rw [entries, left.entries, filter_map_eq_filterMap]
    refine List.filterMap_congr fun e _ => ?_
    unfold State.movePlace
    split <;> rfl
  · rw [overflow, left.overflow]
    simp only [List.mem_map, List.mem_filter, Prod.mk.injEq, State.movePlace]
    constructor
    · rintro ⟨⟨p, j⟩, ⟨listed, on⟩, rfl, rfl⟩
      exact ⟨p, listed, if_pos on⟩
    · rintro ⟨p, listed, place⟩
      split at place
      · next on => cases place; exact ⟨(p, k), ⟨listed, on⟩, rfl, rfl⟩
      · cases place
  · rw [marker]
    exact left.kept (length ▸ same)
  · rw [marker]
    exact left.left (length ▸ fewer) none
  · rw [marker]
    refine left.member fun nil => some ?_
    rw [overflow, nil]
    rfl

theorem movePlace_carried {s : State} {m : Move} {p : Pos} (hp : s.movesAway m p = true) {k : Condition}
    (on : s.active p k = true) : s.movePlace m p k
      = if (k = .sensorFault ∨ k = .batteryLow) ∧ s.detachedSlot (m.destination p) = false then some (m.destination p) else none := by
  unfold State.movePlace State.movedTo
  rw [State.moveClearings_touched (State.movesAway_touched hp), on, hp]
  by_cases kept : k = .sensorFault ∨ k = .batteryLow <;> cases s.detachedSlot (m.destination p) <;> simp [kept]

theorem movePlace_lost {s : State} {m : Move} {p : Pos} (touched : s.touchedBy m p = true) (stays : s.movesAway m p = false)
    (k : Condition) : s.movePlace m p k = none := by
  unfold State.movePlace
  rw [State.moveClearings_touched touched, stays]
  simp

theorem movePlace_untouched {s : State} {m : Move} {p : Pos} (free : s.touchedBy m p = false) {k : Condition}
    (on : s.active p k = true) : s.movePlace m p k
      = if k = .imbalance ∧ (s.axle p.axle).kind = .dual ∧ (s.touchedBy m p.pairLow = true ∨ s.touchedBy m p.pairHigh = true)
        then none else some p := by
  have stays : s.movesAway m p = false := by
    cases h : s.movesAway m p
    · rfl
    · rw [State.movesAway_touched h] at free; cases free
  unfold State.movePlace State.movedTo
  rw [State.moveClearings_untouched free, on, stays]
  by_cases partner : k = .imbalance ∧ (s.axle p.axle).kind = .dual
      ∧ (s.touchedBy m p.pairLow = true ∨ s.touchedBy m p.pairHigh = true)
  · rw [if_pos partner]
    simp [partner.1, partner.2.1, partner.2.2]
  · rw [if_neg partner]
    by_cases e : k = .imbalance
    · by_cases d : (s.axle p.axle).kind = .dual
      · have apart : ¬ (s.touchedBy m p.pairLow = true ∨ s.touchedBy m p.pairHigh = true) := fun h => partner ⟨e, d, h⟩
        simp [apart]
      · simp [d]
    · simp [e]

/-! ### The parameters of MAP_MOVE -/

/-- The move that the parameters of MAP_MOVE name. -/
def moveNamed (sa sk na ns da dk mode : Byte) : Move :=
  ⟨sa.toNat, sk.toNat, da.toNat, dk.toNat, na.toNat, ns.toNat, decide (mode.toNat = 1)⟩

theorem moveOf_eq (sa sk na ns da dk mode : Byte) :
    moveOf sa sk na ns da dk mode
      = if 9 < sa.toNat + na.toNat ∨ 9 < da.toNat + na.toNat ∨ 3 < sk.toNat + ns.toNat ∨ 3 < dk.toNat + ns.toNat
          ∨ 1 < mode.toNat
        then none else some (moveNamed sa sk na ns da dk mode) := by
  have fits : (9 < sa.toNat + na.toNat ∨ 9 < da.toNat + na.toNat ∨ 3 < sk.toNat + ns.toNat ∨ 3 < dk.toNat + ns.toNat
      ∨ 1 < mode.toNat) ↔ ¬ (sa.toNat + na.toNat ≤ 9 ∧ da.toNat + na.toNat ≤ 9 ∧ sk.toNat + ns.toNat ≤ 3
        ∧ dk.toNat + ns.toNat ≤ 3) ∨ 1 < mode.toNat := by omega
  simp only [fits]
  unfold moveOf moveNamed
  by_cases out : 1 < mode.toNat
  · rw [flagOf_eq_none out, if_pos (.inr out)]
  · have flag : flagOf mode.toNat = some (decide (mode.toNat = 1)) := by
      have : mode.toNat = 0 ∨ mode.toNat = 1 := by omega
      rcases this with h | h <;> rw [h] <;> rfl
    rw [flag]
    by_cases fit : sa.toNat + na.toNat ≤ 9 ∧ da.toNat + na.toNat ≤ 9 ∧ sk.toNat + ns.toNat ≤ 3 ∧ dk.toNat + ns.toNat ≤ 3
    · simp [fit, out]
    · simp [fit]

/-- The checks of MAP_MOVE pass to its result, outside the load. -/
theorem exec_mapMove {s : State} {q : PortId} (takes : Claims.Takes s q) (l : s.loading = false) {sa sk na ns da dk mode : Byte}
    {m : Move} (named : moveOf sa sk na ns da dk mode = some m) {expected : Generation} {r : Option Status}
    (hr : s.moveFailure expected m = r) :
    exec (.mapMove q expected sa sk na ns da dk mode) s
      = .next (r.elim ((s.move m).answer q .ok []) fun st => s.answer q st []) := by
  refine (next_loaded takes l _).trans ?_
  rw [named]
  dsimp only
  rw [hr]
  cases r <;> rfl

/-- The destination of a source position is where its numbers say. -/
theorem Machine.Move.destination_iff {m : Move} (hm : m.Fits) (p d : Pos) :
    (m.fromHere p = true ∧ p.axle.val + m.dstAxle = d.axle.val + m.srcAxle ∧ p.slot.val + m.dstSlot = d.slot.val + m.srcSlot)
      ↔ m.fromHere p = true ∧ m.destination p = d := by
  refine and_congr_right fun h => ?_
  obtain ⟨axle, slot⟩ := Move.destination_val hm h
  constructor
  · rintro ⟨ha, hs⟩
    exact Pos.ext_val (by omega) (by omega)
  · rintro rfl
    omega

theorem Machine.State.arrivesAt_iff_id {s : State} {m : Move} (hm : m.Fits) (d : Pos) :
    s.arrivesAt m d = true ↔ ∃ p id, (m.fromHere p = true ∧ m.destination p = d) ∧ s.slotId p = some id := by
  rw [State.arrivesAt_iff hm]
  simp only [State.movesAway, Bool.and_eq_true, Option.isSome_iff_exists]
  constructor
  · rintro ⟨p, ⟨h, id, hid⟩, e⟩; exact ⟨p, id, ⟨h, e⟩, hid⟩
  · rintro ⟨p, id, ⟨h, e⟩, hid⟩; exact ⟨p, ⟨h, id, hid⟩, e⟩

theorem Machine.State.touchedBy_iff_places (s : State) (m : Move) (d : Pos) :
    s.touchedBy m d = true ↔ m.fromHere d = true ∨ s.arrivesAt m d = true ∨ (m.toHere d = true ∧ m.clears = true) := by
  rw [State.touchedBy_iff]
  simp only [State.overrun, State.arrivesAt]
  cases m.fromHere d <;> cases m.toHere d <;> cases (s.slotId (m.source d)).isSome <;> cases m.clears <;> simp

theorem Machine.State.moved_emptied {s : State} {m : Move} {d : Pos} (h : s.touchedBy m d = true) (na : ¬ s.arrivesAt m d = true) :
    (s.moved m).slotId d = none ∧ (s.moved m).wheel d = .empty := by
  refine ⟨?_, State.moved_wheel_emptied h na⟩
  rw [State.touchedBy_iff] at h
  rw [State.moved_slotId, State.movedId, if_neg na, if_pos h]

theorem Machine.State.moved_kept {s : State} {m : Move} {d : Pos} (h : s.touchedBy m d = false) :
    (s.moved m).slotId d = s.slotId d ∧ Claims.UpToImbalance ((s.moved m).wheel d) (s.wheel d) := by
  refine ⟨?_, ?_⟩
  · have parts := h
    rw [State.touchedBy_iff] at parts
    rw [State.moved_slotId, State.movedId, if_neg (State.not_arrivesAt_of_untouched h), if_neg (by simp [parts])]
  · rw [State.moved_wheel_untouched h, State.moveClearings_wheel_untouched h]
    exact upToImbalance_put _ _

theorem Machine.State.moved_pair {s : State} {m : Move} {d : Pos} (h : s.touchedBy m d = false)
    (dual : (s.axle d.axle).kind = .dual) (pair : s.touchedBy m d.pairLow = true ∨ s.touchedBy m d.pairHigh = true) :
    (s.moved m).active d .imbalance = false := by
  have same : (s.moved m).active d .imbalance = (s.moveClearings m).active d .imbalance := by
    unfold State.active
    rw [State.moved_wheel_untouched h]
  rw [same, State.moveClearings_untouched h]
  simp [dual, pair]

theorem Machine.State.moved_alone {s : State} {m : Move} {d : Pos} (h : s.touchedBy m d = false)
    (alone : (s.axle d.axle).kind = .single ∨ (¬ s.touchedBy m d.pairLow = true ∧ ¬ s.touchedBy m d.pairHigh = true)) :
    (s.moved m).wheel d = s.wheel d := by
  have same : (s.moveClearings m).active d .imbalance = s.active d .imbalance := by
    rw [State.moveClearings_untouched h]
    rcases alone with single | ⟨low, high⟩
    · simp [single]
    · simp [low, high]
  rw [State.moved_wheel_untouched h, State.moveClearings_wheel_untouched h, same, State.active, Conditions.put_same rfl]

/-! ### The checks of MAP_MOVE -/

/-- The checks of R26 in their order, as the statement names them. -/
theorem moveFailure_cases (s : State) (expected : Generation) (m : Move) :
    let guarded := ∃ a : Fin 10, m.namesAxle a.val = true ∧ Claims.Protected s a.val
    let session := ∃ a : Fin 10, m.namesAxle a.val = true ∧ Claims.InSession s a.val
    let unfit := ∃ p, s.movesAway m p = true ∧ s.validPos (m.destination p) = false
    (expected ≠ s.generation → s.moveFailure expected m = some .stale)
    ∧ (expected = s.generation → guarded → s.moveFailure expected m = some .underProtection)
    ∧ (expected = s.generation → ¬ guarded → session → s.moveFailure expected m = some .busy)
    ∧ (expected = s.generation → ¬ guarded → ¬ session → unfit → s.moveFailure expected m = some .range)
    ∧ (expected = s.generation → ¬ guarded → ¬ session → ¬ unfit → s.moveFailure expected m = none) := by
  dsimp only
  have guard : (∃ a : Fin 10, m.namesAxle a.val = true ∧ Claims.Protected s a.val)
      ↔ ((List.finRange 10).any fun a => m.namesAxle a.val && s.protectedAxle a.val) = true := by
    simp [protectedAxle_iff]
  have busy : (∃ a : Fin 10, m.namesAxle a.val = true ∧ Claims.InSession s a.val)
      ↔ ((List.finRange 10).any fun a => m.namesAxle a.val && s.sessionAxle a.val) = true := by
    simp [sessionAxle_iff]
  have fits : (∃ p, s.movesAway m p = true ∧ s.validPos (m.destination p) = false)
      ↔ ¬ (allPos.all fun p => !(m.fromHere p && (s.slotId p).isSome) || s.validPos (m.destination p)) = true := by
    rw [allPos_all, not_forall]
    refine exists_congr fun p => ?_
    show _ ↔ ¬ (!s.movesAway m p || s.validPos (m.destination p)) = true
    cases s.movesAway m p <;> cases s.validPos (m.destination p) <;> simp
  rw [guard, busy, fits]
  unfold State.moveFailure
  generalize ((List.finRange 10).any fun a => m.namesAxle a.val && s.protectedAxle a.val) = g
  generalize ((List.finRange 10).any fun a => m.namesAxle a.val && s.sessionAxle a.val) = b
  generalize (allPos.all fun p => !(m.fromHere p && (s.slotId p).isSome) || s.validPos (m.destination p)) = f
  refine ⟨fun ne => by simp [ne], fun e hg => by simp [e, hg], fun e hg hb => by simp [e, hg, hb],
    fun e hg hb hf => by simp [e, hg, hb, hf], fun e hg hb hf => by simp [e, hg, hb, not_not.1 hf]⟩

theorem Machine.Move.namesAxle_iff (m : Move) (a : Nat) :
    m.namesAxle a = true ↔ (m.srcAxle ≤ a ∧ a ≤ m.srcAxle + m.axles) ∨ (m.dstAxle ≤ a ∧ a ≤ m.dstAxle + m.axles) := by
  simp [Move.namesAxle]

/-- What the statement asks of a taken move, by the move (R14, R18, R20, R27). -/
theorem move_taken {m : Move} (hm : m.Fits) (s : State) (q : PortId) :
    let t := (s.move m).answer q .ok []
    JudgedFrom t { Claims.edited s q with slots := t.slots }
    ∧ (∀ p id, s.movesAway m p = true → s.slotId p = some id → t.slotId (m.destination p) = some id
        ∧ t.wheel (m.destination p) = Claims.carriedRecord s p (m.destination p) ∧ Claims.Flagged t .wheel)
    ∧ (AlertLaw s → Claims.AlertsPlaced s t (s.movePlace m))
    ∧ (∀ d, s.touchedBy m d = true → ¬ s.arrivesAt m d = true → t.slotId d = none ∧ t.wheel d = .empty)
    ∧ (∀ d, s.touchedBy m d = false → t.slotId d = s.slotId d ∧ Claims.UpToImbalance (t.wheel d) (s.wheel d))
    ∧ (∀ d, s.touchedBy m d = false → (s.axle d.axle).kind = .dual →
        s.touchedBy m d.pairLow = true ∨ s.touchedBy m d.pairHigh = true → t.active d .imbalance = false)
    ∧ (∀ d, s.touchedBy m d = false →
        (s.axle d.axle).kind = .single ∨ (¬ s.touchedBy m d.pairLow = true ∧ ¬ s.touchedBy m d.pairHigh = true) →
        t.wheel d = s.wheel d) := by
  intro t
  have framed : JudgedFrom t { Claims.edited s q with slots := (s.moved m).slots } := move_judgedFrom s m q
  have slots : t.slots = (s.moved m).slots := framed.slots
  have slotId (d : Pos) : t.slotId d = (s.moved m).slotId d := by simp only [State.slotId, slots]
  have wheels : t.wheels = (s.moved m).wheels := by
    show ((s.move m).answer q .ok []).wheels = _
    rw [State.answer_wheels, State.move_eq, State.editTaken_wheels]
  have alerts : t.alerts = (s.moved m).alerts := by
    show ((s.move m).answer q .ok []).alerts = _
    rw [State.answer_alerts, State.move_eq, State.editTaken_alerts]
  have wheel := State.wheel_of_wheels wheels
  refine ⟨by rw [slots]; exact framed, fun p id away hid => ⟨?_, ?_, ?_⟩, fun law => ?_, fun d touched na => ?_,
    fun d free => ?_, fun d free dual pair => ?_, fun d free alone => ?_⟩
  · rw [slotId, State.moved_slotId, State.movedId_arrives ((State.arrivesAt_iff hm _).2 ⟨p, away, rfl⟩),
      Move.source_destination hm (State.movesAway_fromHere away), hid]
  · rw [wheel, moved_carriedRecord hm away]
  · refine Claims.Flagged.answer ?_ q _ _
    rw [State.move_eq, State.moveTouchesRecord_of_movesAway away]
    exact Claims.flagged_editTaken _
  · have placed := moved_alertsPlaced law m
    unfold Claims.AlertsPlaced at placed ⊢
    rw [alerts]
    exact placed
  · rw [slotId, wheel]
    exact State.moved_emptied touched na
  · rw [slotId, wheel]
    exact State.moved_kept free
  · rw [State.active, wheel]
    exact State.moved_pair free dual pair
  · rw [wheel]
    exact State.moved_alone free alone

/-- Settles O47: the checks of R26, and the map, records and alert list of `State.moved`. -/
theorem moveCarriesRecords : Obligations.MoveCarriesRecords := by
  unfold Obligations.MoveCarriesRecords
  intro s q expected sa sk na ns da dk mode takes map answer inSource inDest outside names stale guarded session goes unfit
    arrives touched
  let m := moveNamed sa sk na ns da dk mode
  have named (fit : ¬ outside) : moveOf sa sk na ns da dk mode = some m := (moveOf_eq _ _ _ _ _ _ _).trans (if_neg fit)
  have fits (fit : ¬ outside) : m.Fits := moveOf_fits (named fit)
  have source (p : Pos) : inSource p ↔ m.fromHere p = true := (m.fromHere_iff p).symm
  have dest (d : Pos) : inDest d ∧ mode.toNat = 1 ↔ m.toHere d = true ∧ m.clears = true :=
    and_congr (m.toHere_iff d).symm decide_eq_true_iff.symm
  have guarded_iff : guarded ↔ ∃ a : Fin 10, m.namesAxle a.val = true ∧ Claims.Protected s a.val :=
    exists_congr fun a => and_congr_left fun _ => (m.namesAxle_iff a.val).symm
  have session_iff : session ↔ ∃ a : Fin 10, m.namesAxle a.val = true ∧ Claims.InSession s a.val :=
    exists_congr fun a => and_congr_left fun _ => (m.namesAxle_iff a.val).symm
  have goes_iff (fit : ¬ outside) (p d : Pos) : goes p d ↔ m.fromHere p = true ∧ m.destination p = d :=
    (and_congr_left fun _ => source p).trans (Move.destination_iff (fits fit) p d)
  have moves (fit : ¬ outside) {p d : Pos} {id : SensorId} (go : goes p d) (hid : s.slotId p = some id) :
      s.movesAway m p = true ∧ m.destination p = d := by
    obtain ⟨here, there⟩ := (goes_iff fit p d).1 go
    exact ⟨by simp [State.movesAway, here, hid], there⟩
  have unfit_iff (fit : ¬ outside) : unfit ↔ ∃ p, s.movesAway m p = true ∧ s.validPos (m.destination p) = false := by
    have valid (d : Pos) : s.validPos d = false ↔ ¬ Claims.ValidSlot (s.axle d.axle) d.slot := by
      rw [← validSlot_iff, Bool.not_eq_true]; rfl
    constructor
    · rintro ⟨p, d, id, go, hid, bad⟩
      obtain ⟨away, rfl⟩ := moves fit go hid
      exact ⟨p, away, (valid _).2 bad⟩
    · rintro ⟨p, away, bad⟩
      obtain ⟨id, hid⟩ := Option.isSome_iff_exists.1 (State.movesAway_held away)
      exact ⟨p, _, id, (goes_iff fit p _).2 ⟨State.movesAway_fromHere away, rfl⟩, hid, (valid _).1 bad⟩
  have arrives_iff (fit : ¬ outside) (d : Pos) : arrives d ↔ s.arrivesAt m d = true := by
    rw [State.arrivesAt_iff_id (fits fit)]
    exact exists_congr fun p => exists_congr fun id => and_congr_left fun _ => goes_iff fit p d
  have touched_iff (fit : ¬ outside) (d : Pos) : touched d ↔ s.touchedBy m d = true := by
    rw [State.touchedBy_iff_places]
    exact or_congr (source d) (or_congr (arrives_iff fit d) (dest d))
  have untouched (fit : ¬ outside) {d : Pos} (h : ¬ touched d) : s.touchedBy m d = false := by
    rw [touched_iff fit] at h
    simpa using h
  obtain ⟨isStale, isGuarded, isSession, isUnfit, passes⟩ := moveFailure_cases s expected m
  rw [← guarded_iff] at isGuarded isSession isUnfit passes
  rw [← session_iff] at isSession isUnfit passes
  refine ⟨fun l => next_busy takes l _, fun l out => ?_, fun l fit st => ?_, fun l fit cur g => ?_, fun l fit cur ng b => ?_,
    fun l fit cur ng nb bad => ?_, fun l fit cur ng nb ok => ?_⟩
  · refine (next_loaded takes l _).trans ?_
    rw [moveOf_eq, if_pos out]
    rfl
  · exact exec_mapMove takes l (named fit) (isStale st)
  · exact exec_mapMove takes l (named fit) (isGuarded (not_not.1 cur) g)
  · exact exec_mapMove takes l (named fit) (isSession (not_not.1 cur) ng b)
  · exact exec_mapMove takes l (named fit) (isUnfit (not_not.1 cur) ng nb ((unfit_iff fit).1 bad))
  · obtain ⟨framed, carried, placed, emptied, kept, pair, alone⟩ := move_taken (fits fit) s q
    refine ⟨_, exec_mapMove takes l (named fit) (passes (not_not.1 cur) ng nb (mt (unfit_iff fit).2 ok)), framed,
      fun p d id go hid => ?_, fun law => ⟨s.movePlace m, placed law, fun p d id k on go hid => ?_, fun p k on => ⟨?_, ?_, ?_⟩⟩,
      fun d nd gone => ?_, fun d nt => kept d (untouched fit nt), fun d nt dual near => ?_, fun d single nt => ?_⟩
    · obtain ⟨away, rfl⟩ := moves fit go hid
      exact carried p id away hid
    · obtain ⟨away, rfl⟩ := moves fit go hid
      exact movePlace_carried away on
    · intro t empty
      refine movePlace_lost ((touched_iff fit p).1 t) ?_ k
      by_contra away
      have goesAway : s.movesAway m p = true := by simpa using away
      have held := State.movesAway_held goesAway
      rw [empty ((source p).2 (State.movesAway_fromHere goesAway))] at held
      cases held
    · intro nt partner
      rw [movePlace_untouched (untouched fit nt) on, if_pos]
      simpa only [← touched_iff fit] using partner
    · intro nt partner
      rw [movePlace_untouched (untouched fit nt) on, if_neg]
      simpa only [← touched_iff fit] using partner
    · refine emptied d ?_ (mt (arrives_iff fit d).2 nd)
      exact (touched_iff fit d).1 (gone.elim .inl fun c => .inr (.inr c))
    · exact pair d (untouched fit nt) dual (near.imp (touched_iff fit _).1 (touched_iff fit _).1)
    · refine alone d (untouched fit nt) (single.imp_right fun free => ?_)
      exact ⟨mt (touched_iff fit _).2 free.1, mt (touched_iff fit _).2 free.2⟩

end Sys2Proof

/-! ## Re-evaluation of an axle, record by record -/

namespace Sys2Proof
open Machine Safety

/-! ### The verdict of an imbalance check -/

/-- What an imbalance check finds for the pair of a position: IMBALANCE raised, cleared, or left (R91). -/
def Machine.State.pairVerdict (s : State) (p : Pos) : Option Bool :=
  if (s.axle p.axle).kind = .dual then
    match (s.wheel p.pairLow).livePressure, (s.wheel p.pairHigh).livePressure with
    | some x, some y =>
      if (s.levelsOf p.axle).imbalance < ((x - y).natAbs : Int) then some true
      else if ((x - y).natAbs : Int) ≤ (s.levelsOf p.axle).imbalanceRelease then some false
      else none
    | _, _ => none
  else none

/-- A record with the verdict of an imbalance check. -/
def Machine.WheelRecord.withImbalance (r : WheelRecord) : Option Bool → WheelRecord
  | none => r
  | some b => { r with conditions := r.conditions.put .imbalance b }

@[simp] theorem Machine.WheelRecord.withImbalance_livePressure (r : WheelRecord) (v : Option Bool) :
    (r.withImbalance v).livePressure = r.livePressure := by cases v <;> rfl

theorem Machine.WheelRecord.withImbalance_has (r : WheelRecord) (v : Option Bool) :
    (r.withImbalance v).conditions.has .imbalance = v.getD (r.conditions.has .imbalance) := by
  cases v with
  | none => rfl
  | some b => exact (Conditions.has_put r.conditions .imbalance .imbalance b).trans (if_pos rfl)

theorem upToImbalance_verdict (r : WheelRecord) (v : Option Bool) : Claims.UpToImbalance (r.withImbalance v) r := by
  cases v with
  | none => exact upToImbalance_refl r
  | some b => exact upToImbalance_put r b

theorem Machine.State.checkPair_wheel (s : State) (p q : Pos) :
    (s.checkPair p).wheel q
      = if q = p.pairLow ∨ q = p.pairHigh then (s.wheel q).withImbalance (s.pairVerdict p) else s.wheel q := by
  unfold State.checkPair State.pairVerdict
  by_cases dual : (s.axle p.axle).kind = .dual
  · rw [if_pos dual, if_pos dual]
    cases (s.wheel p.pairLow).livePressure with
    | none => dsimp only; split <;> rfl
    | some x =>
      cases (s.wheel p.pairHigh).livePressure with
      | none => dsimp only; split <;> rfl
      | some y =>
        dsimp only
        by_cases beyond : (s.levelsOf p.axle).imbalance < ((x - y).natAbs : Int)
        · rw [if_pos beyond, if_pos beyond]
          exact State.raisePair_wheel s p q
        · rw [if_neg beyond, if_neg beyond]
          by_cases under : ((x - y).natAbs : Int) ≤ (s.levelsOf p.axle).imbalanceRelease
          · rw [if_pos under, if_pos under, State.clearPair_wheel]
            simp only [dual, true_and]
            rfl
          · rw [if_neg under, if_neg under]
            split <;> rfl
  · rw [if_neg dual, if_neg dual]
    split <;> rfl

theorem Machine.State.levelsOf_of_rest {s t : State} (h : t.rest = s.rest) (a : Fin 10) : t.levelsOf a = s.levelsOf a :=
  (congrArg (fun x : State => x.levelsOf a) h :)

theorem Machine.State.pairVerdict_congr {s t : State} (h : t.rest = s.rest) {p : Pos}
    (live : ∀ q : Pos, (t.wheel q).livePressure = (s.wheel q).livePressure) : t.pairVerdict p = s.pairVerdict p := by
  unfold State.pairVerdict
  rw [State.axle_of_rest h, State.levelsOf_of_rest h, live, live]

/-- The verdict of a pair is that of either member. -/
theorem Machine.State.pairVerdict_of_pair (s : State) {p q : Pos} (h : q = p.pairLow ∨ q = p.pairHigh) :
    s.pairVerdict p = s.pairVerdict q := by
  unfold State.pairVerdict
  rcases h with rfl | rfl
  · rw [Pos.pairLow_axle, Pos.pairLow_pairLow, Pos.pairLow_pairHigh]
  · rw [Pos.pairHigh_axle, Pos.pairHigh_pairLow, Pos.pairHigh_pairHigh]

/-! ### One record re-evaluated -/

/-- A record re-evaluated under levels: only a LIVE one with a P_cold changes (R96, R97). -/
def Machine.WheelRecord.reevaluated (r : WheelRecord) (l : Levels) : WheelRecord :=
  match r.livePressure with
  | some c => r.pressed l none c
  | none => r

theorem Machine.WheelRecord.reevaluated_live {r : WheelRecord} {c : Int} (h : r.livePressure = some c) (l : Levels) :
    r.reevaluated l = Claims.reevaluated l c r := by
  unfold WheelRecord.reevaluated Claims.reevaluated
  rw [h]
  dsimp only
  unfold WheelRecord.pressed
  dsimp only
  rw [bandStep_none_pending]
  rfl

theorem Machine.WheelRecord.reevaluated_idle {r : WheelRecord} (h : r.livePressure = none) (l : Levels) : r.reevaluated l = r := by
  unfold WheelRecord.reevaluated
  rw [h]

theorem Machine.WheelRecord.reevaluated_livePressure (r : WheelRecord) (l : Levels) :
    (r.reevaluated l).livePressure = r.livePressure := by
  cases h : r.livePressure with
  | none => rw [WheelRecord.reevaluated_idle h, h]
  | some c =>
    rw [WheelRecord.reevaluated_live h, ← h]
    rfl

theorem Machine.WheelRecord.reevaluated_imbalance (r : WheelRecord) (l : Levels) :
    (r.reevaluated l).conditions.has .imbalance = r.conditions.has .imbalance := by
  cases h : r.livePressure with
  | none => rw [WheelRecord.reevaluated_idle h]
  | some c =>
    rw [WheelRecord.reevaluated_live h]
    exact Claims.bandMoves_has _ _ _ _ fun z => by cases z <;> decide

theorem Machine.State.reevaluateAt_wheel (s : State) (p q : Pos) :
    (s.reevaluateAt p).wheel q = if p = q then (s.wheel q).reevaluated (s.levelsOf q.axle) else s.wheel q := by
  unfold State.reevaluateAt WheelRecord.reevaluated
  by_cases e : p = q
  · subst e
    rw [if_pos rfl]
    cases (s.wheel p).livePressure with
    | none => rfl
    | some c => exact (State.judgePressure_wheel s p p none c).trans (if_pos rfl)
  · rw [if_neg e]
    cases (s.wheel p).livePressure with
    | none => rfl
    | some c => exact (State.judgePressure_wheel s p q none c).trans (if_neg e)

theorem Machine.State.reevaluateEach_wheel (s : State) {ps : List Pos} (h : ps.Nodup) (q : Pos) :
    (s.atEach ps State.reevaluateAt).wheel q = if q ∈ ps then (s.wheel q).reevaluated (s.levelsOf q.axle) else s.wheel q := by
  induction ps generalizing s with
  | nil => rfl
  | cons p ps ih =>
    obtain ⟨out, rest⟩ := List.nodup_cons.1 h
    show (State.atEach (s.reevaluateAt p) ps State.reevaluateAt).wheel q = _
    rw [ih _ rest, State.levelsOf_of_rest (s.reevaluateAt_rest p), State.reevaluateAt_wheel]
    by_cases e : p = q
    · subst e
      simp [out]
    · simp [e, Ne.symm e]

theorem axlePositions_nodup (a : Fin 10) : (axlePositions a).Nodup :=
  (List.nodup_finRange 4).map fun _ _ h => (Pos.mk.inj h).2

/-- The pair of an axle's slot 0 holds slots 0 and 1, that of slot 2 holds slots 2 and 3. -/
theorem Machine.Pos.front_pair (q : Pos) :
    (q = (⟨q.axle, 0⟩ : Pos).pairLow ∨ q = (⟨q.axle, 0⟩ : Pos).pairHigh) ↔ q.slot.val < 2 := by
  obtain ⟨a, k⟩ := q
  simp only [Pos.pairLow, Pos.pairHigh, Pos.mk.injEq, Fin.ext_iff, true_and]
  show k.val = 2 * (0 / 2) ∨ k.val = 2 * (0 / 2) + 1 ↔ k.val < 2
  omega

theorem Machine.Pos.back_pair (q : Pos) :
    (q = (⟨q.axle, 2⟩ : Pos).pairLow ∨ q = (⟨q.axle, 2⟩ : Pos).pairHigh) ↔ 2 ≤ q.slot.val := by
  obtain ⟨a, k⟩ := q
  simp only [Pos.pairLow, Pos.pairHigh, Pos.mk.injEq, Fin.ext_iff, true_and]
  show k.val = 2 * (2 / 2) ∨ k.val = 2 * (2 / 2) + 1 ↔ 2 ≤ k.val
  omega

/-- Re-evaluation writes each record of the axle, and then the verdict of its pair (R96). -/
theorem Machine.State.reevaluateAxle_wheel (s : State) (a : Fin 10) (q : Pos) :
    (s.reevaluateAxle a).wheel q
      = if q.axle = a then ((s.wheel q).reevaluated (s.levelsOf q.axle)).withImbalance (s.pairVerdict q) else s.wheel q := by
  unfold State.reevaluateAxle
  generalize hu : s.atEach (axlePositions a) State.reevaluateAt = u
  have rest : u.rest = s.rest := by rw [← hu]; exact State.atEach_same State.rest _ State.reevaluateAt_rest s _
  have wheel (d : Pos) : u.wheel d = if d.axle = a then (s.wheel d).reevaluated (s.levelsOf d.axle) else s.wheel d := by
    rw [← hu, State.reevaluateEach_wheel _ (axlePositions_nodup a)]
    simp only [mem_axlePositions_iff]
  have live (d : Pos) : (u.wheel d).livePressure = (s.wheel d).livePressure := by
    rw [wheel]
    split
    · exact WheelRecord.reevaluated_livePressure _ _
    · rfl
  have first (d : Pos) : ((u.checkPair ⟨a, 0⟩).wheel d).livePressure = (s.wheel d).livePressure := by
    rw [State.checkPair_wheel]
    split
    · rw [WheelRecord.withImbalance_livePressure, live]
    · exact live d
  have verdict0 : u.pairVerdict ⟨a, 0⟩ = s.pairVerdict ⟨a, 0⟩ := State.pairVerdict_congr rest live
  have verdict2 : (u.checkPair ⟨a, 0⟩).pairVerdict ⟨a, 2⟩ = s.pairVerdict ⟨a, 2⟩ :=
    State.pairVerdict_congr ((State.checkPair_rest u _).trans rest) first
  rw [State.checkPair_wheel, State.checkPair_wheel, verdict0, verdict2, wheel]
  by_cases here : q.axle = a
  · subst here
    rw [if_pos rfl]
    by_cases front : q.slot.val < 2
    · have low := q.front_pair.2 front
      rw [if_neg (mt q.back_pair.1 (not_le.2 front)), if_pos low, s.pairVerdict_of_pair low, if_pos rfl]
    · have high := q.back_pair.2 (not_lt.1 front)
      rw [if_pos high, if_neg (mt q.front_pair.1 front), s.pairVerdict_of_pair high, if_pos rfl]
  · have out (k : Fin 4) : ¬ (q = (⟨a, k⟩ : Pos).pairLow ∨ q = (⟨a, k⟩ : Pos).pairHigh) := by
      rintro (rfl | rfl) <;> exact here rfl
    rw [if_neg (out 2), if_neg (out 0), if_neg here, if_neg here]

/-- A target change of one axle (R96). -/
theorem Machine.State.targetChange_one (s : State) (a : Fin 10) :
    (s.targetChange fun b => b == a) = if (s.axle a).present then s.reevaluateAxle a else s := by
  have only : (List.finRange 10).filter (fun b => b == a) = [a] := by revert a; decide
  have picked : (List.finRange 10).filter (fun b => (s.axle b).present && b == a)
      = if (s.axle a).present then [a] else [] := by
    rw [← List.filter_filter, only]
    cases h : (s.axle a).present <;> simp [h]
  unfold State.targetChange
  rw [picked]
  split
  · rw [List.foldl_cons, List.foldl_nil]
  · rw [List.foldl_nil]

/-! ### Re-evaluation as the statements name it -/

theorem liveAt_iff (s : State) (p : Pos) (c : Int) : Claims.LiveAt s p c ↔ (s.wheel p).livePressure = some c := by
  unfold Claims.LiveAt WheelRecord.livePressure
  cases hs : (s.wheel p).state <;> cases hc : (s.wheel p).pCold <;> simp

theorem not_liveAt_iff (s : State) (p : Pos) : (∀ c, ¬ Claims.LiveAt s p c) ↔ (s.wheel p).livePressure = none := by
  simp only [liveAt_iff]
  exact Option.eq_none_iff_forall_ne_some.symm

theorem Machine.State.pairVerdict_idle {s : State} {p : Pos}
    (h : (s.axle p.axle).kind = .single ∨ (s.wheel p.pairLow).livePressure = none ∨ (s.wheel p.pairHigh).livePressure = none) :
    s.pairVerdict p = none := by
  unfold State.pairVerdict
  rcases h with single | low | high
  · simp [single]
  · simp [low]
  · simp [high]

/-- A member of a pair with a verdict is LIVE with a P_cold. -/
theorem Machine.State.pairVerdict_self {s : State} {p : Pos} (h : (s.wheel p).livePressure = none) : s.pairVerdict p = none :=
  State.pairVerdict_idle (.inr (Pos.pair_of (P := fun d => (s.wheel d).livePressure = none) h))

/-- What the statements ask of a re-evaluation, from what it writes on each affected axle (R96, R97). -/
theorem Claims.reevaluated_of_wheel {s t : State} {affected : Fin 10 → Prop}
    (levels : ∀ a, t.levelsOf a = s.levelsOf a) (axle : ∀ a, t.axle a = s.axle a)
    (there : ∀ q, affected q.axle → t.wheel q = ((s.wheel q).reevaluated (s.levelsOf q.axle)).withImbalance (s.pairVerdict q))
    (elsewhere : ∀ q, ¬ affected q.axle → t.wheel q = s.wheel q) : Claims.Reevaluated s t affected := by
  have imbalance (q : Pos) (h : affected q.axle) : t.active q .imbalance = (s.pairVerdict q).getD (s.active q .imbalance) := by
    unfold State.active
    rw [there q h, WheelRecord.withImbalance_has, WheelRecord.reevaluated_imbalance]
  refine ⟨elsewhere, fun q idle => ?_, fun q c h live => ?_, fun q x y h dual low high => ?_, fun q idle => ?_⟩
  · have none := (not_liveAt_iff s q).1 idle
    by_cases h : affected q.axle
    · rw [there q h, State.pairVerdict_self none, WheelRecord.reevaluated_idle none]
      rfl
    · exact elsewhere q h
  · rw [there q h, levels, ← WheelRecord.reevaluated_live ((liveAt_iff s q c).1 live)]
    exact upToImbalance_verdict _ _
  · have verdict : s.pairVerdict q
        = if (s.levelsOf q.axle).imbalance < |x - y| then some true
          else if |x - y| ≤ (s.levelsOf q.axle).imbalanceRelease then some false else none := by
      unfold State.pairVerdict
      rw [if_pos (axle q.axle ▸ dual), (liveAt_iff s _ x).1 low, (liveAt_iff s _ y).1 high]
      simp only [Int.natCast_natAbs]
    rw [levels, imbalance q h, verdict]
    refine ⟨fun beyond => ?_, fun within under => ?_, fun within between => ?_⟩
    · rw [if_pos beyond]; rfl
    · rw [if_neg (not_lt.2 within), if_pos (show |x - y| ≤ (s.levelsOf q.axle).imbalanceRelease from under)]; rfl
    · rw [if_neg (not_lt.2 within), if_neg (not_le.2 (show (s.levelsOf q.axle).imbalanceRelease < |x - y| from between))]; rfl
  · by_cases h : affected q.axle
    · rw [imbalance q h, State.pairVerdict_idle]
      · rfl
      · rw [axle, not_liveAt_iff, not_liveAt_iff] at idle
        exact idle
    · unfold State.active
      rw [elsewhere q h]

end Sys2Proof

/-! ## A new axle record, stage by stage -/

namespace Sys2Proof
open Machine Safety

/-! ### Records equal but for IMBALANCE -/

theorem Claims.UpToImbalance.trans {r u v : WheelRecord} (h : Claims.UpToImbalance r u) (g : Claims.UpToImbalance u v) :
    Claims.UpToImbalance r v := by
  obtain ⟨b, rfl⟩ := h
  obtain ⟨c, rfl⟩ := g
  exact ⟨b, rfl⟩

theorem Claims.UpToImbalance.livePressure {r u : WheelRecord} (h : Claims.UpToImbalance r u) : r.livePressure = u.livePressure := by
  obtain ⟨b, rfl⟩ := h
  rfl

theorem Claims.UpToImbalance.state {r u : WheelRecord} (h : Claims.UpToImbalance r u) : r.state = u.state := by
  obtain ⟨b, rfl⟩ := h
  rfl

theorem Claims.UpToImbalance.detached {r u : WheelRecord} (h : Claims.UpToImbalance r u) : Claims.detached r = Claims.detached u := by
  obtain ⟨b, rfl⟩ := h
  rfl

theorem Claims.UpToImbalance.attach {r u : WheelRecord} (h : Claims.UpToImbalance r u) (now : Uptime) :
    Claims.UpToImbalance (r.attach now) (u.attach now) := by
  obtain ⟨b, rfl⟩ := h
  exact ⟨b, rfl⟩

theorem Claims.exchange_put (b z : Band) (c : Conditions) (x : Bool) :
    Claims.exchange (Claims.bandCondition b) (Claims.bandCondition z) (c.put .imbalance x)
      = (Claims.exchange (Claims.bandCondition b) (Claims.bandCondition z) c).put .imbalance x := by
  cases b <;> cases z <;> rfl

theorem Claims.bandMoves_put (zs : List Band) (b : Band) (c : Conditions) (x : Bool) :
    Claims.bandMoves b zs (c.put .imbalance x) = (Claims.bandMoves b zs c).put .imbalance x := by
  induction zs generalizing b c with
  | nil => rfl
  | cons z zs ih => rw [Claims.bandMoves, Claims.exchange_put, ih, Claims.bandMoves]

/-- Re-evaluation does not see IMBALANCE. -/
theorem Claims.UpToImbalance.reevaluated {r u : WheelRecord} (h : Claims.UpToImbalance r u) (l : Levels) (c : Int) :
    Claims.UpToImbalance (Claims.reevaluated l c r) (Claims.reevaluated l c u) := by
  obtain ⟨b, rfl⟩ := h
  refine ⟨b, ?_⟩
  unfold Claims.reevaluated
  dsimp only
  rw [Claims.bandMoves_put]

theorem upToImbalance_empty {r : WheelRecord} (h : r = .empty) : { r with conditions := r.conditions.put .imbalance false } = .empty := by
  subst h
  rfl

/-! ### The slots lost and the axle record -/

/-- The first stage of MAP_SET_AXLE: the slots lost are emptied and the axle record is written (R24). -/
def Machine.State.axleWritten (s : State) (a : Fin 10) (r : AxleRecord) : State :=
  (s.emptyAll (s.slotsLost a r)).writeAxle a r

theorem Machine.State.axleWritten_wheel (s : State) (a : Fin 10) (r : AxleRecord) (p : Pos) :
    (s.axleWritten a r).wheel p = if p ∈ s.slotsLost a r then .empty else (s.clearRecords (s.slotsLost a r)).wheel p :=
  State.emptyAll_wheel s _ p

theorem Machine.State.axleWritten_axle (s : State) (a b : Fin 10) (r : AxleRecord) :
    (s.axleWritten a r).axle b = if a = b then r else s.axle b := by
  unfold State.axleWritten
  rw [State.writeAxle_axle, State.axle_of_mapless (s.emptyAll_mapless _)]

theorem Machine.State.axleWritten_vehicle (s : State) (a : Fin 10) (r : AxleRecord) : (s.axleWritten a r).vehicle = s.vehicle :=
  (State.vehicle_of_mapless (s.emptyAll_mapless (s.slotsLost a r)) :)

theorem Machine.State.axleWritten_kept {s : State} {a : Fin 10} {r : AxleRecord} {p : Pos} (h : p ∉ s.slotsLost a r) :
    Claims.UpToImbalance ((s.axleWritten a r).wheel p) (s.wheel p) := by
  rw [State.axleWritten_wheel, if_neg h, State.clearRecords_wheel, if_neg h]
  split
  · exact upToImbalance_put _ _
  · exact upToImbalance_refl _

/-- A record that loses neither its slot nor a partner on a DUAL axle stays as it is. -/
theorem Machine.State.axleWritten_same {s : State} {a : Fin 10} {r : AxleRecord} {p : Pos}
    (h : p.axle = a → p ∉ s.slotsLost a r ∧ ((s.axle a).present = true → (s.axle a).kind = .dual →
      p.pairLow ∉ s.slotsLost a r ∧ p.pairHigh ∉ s.slotsLost a r)) : (s.axleWritten a r).wheel p = s.wheel p := by
  have lost (q : Pos) (hq : q.axle = p.axle) (m : q ∈ s.slotsLost a r) : p.axle = a ∧ (s.axle a).present = true := by
    obtain ⟨here, valid, _⟩ := State.mem_slotsLost.1 m
    simp only [State.validPos, AxleRecord.validSlot, Bool.and_eq_true, here] at valid
    exact ⟨hq ▸ here, valid.1⟩
  have kept : p ∉ s.slotsLost a r := fun m => (h (lost p rfl m).1).1 m
  rw [State.axleWritten_wheel, if_neg kept, State.clearRecords_wheel, if_neg kept, if_neg]
  rintro ⟨dual, low | high⟩
  · obtain ⟨here, present⟩ := lost p.pairLow rfl low
    exact ((h here).2 present (here ▸ dual)).1 low
  · obtain ⟨here, present⟩ := lost p.pairHigh rfl high
    exact ((h here).2 present (here ▸ dual)).2 high

/-- A present DUAL axle that becomes absent or SINGLE loses its inner slots, and IMBALANCE with them (R20, R24). -/
theorem Machine.State.axleWritten_cleared {s : State} {a : Fin 10} {r : AxleRecord} {p : Pos} (here : p.axle = a)
    (present : (s.axle a).present = true) (dual : (s.axle a).kind = .dual) (ends : r.present = false ∨ r.kind = .single) :
    (s.axleWritten a r).active p .imbalance = false := by
  have inner (k : Fin 4) (hk : k = 1 ∨ k = 2) : (⟨a, k⟩ : Pos) ∈ s.slotsLost a r := by
    refine State.mem_slotsLost.2 ⟨rfl, by simp [State.validPos, AxleRecord.validSlot, present, dual], ?_⟩
    rw [← Bool.not_eq_true]
    intro valid
    obtain ⟨stays, still⟩ := AxleRecord.dual_of_validSlot hk valid
    rcases ends with gone | single
    · rw [gone] at stays; cases stays
    · rw [single] at still; cases still
  have pair : p.pairLow ∈ s.slotsLost a r ∨ p.pairHigh ∈ s.slotsLost a r := by
    subst here
    by_cases front : p.slot.val < 2
    · right
      have high : p.pairHigh = ⟨p.axle, 1⟩ := Pos.ext_val rfl (show 2 * (p.slot.val / 2) + 1 = 1 by omega)
      rw [high]
      exact inner 1 (.inl rfl)
    · left
      have bound := p.slot.isLt
      have low : p.pairLow = ⟨p.axle, 2⟩ := Pos.ext_val rfl (show 2 * (p.slot.val / 2) = 2 by omega)
      rw [low]
      exact inner 2 (.inr rfl)
  unfold State.active
  rw [State.axleWritten_wheel]
  split
  · rfl
  · next kept =>
    rw [State.clearRecords_wheel, if_neg kept, here, if_pos ⟨dual, pair⟩]
    exact (Conditions.has_put _ .imbalance .imbalance false).trans (if_pos rfl)

/-! ### The unit change -/

/-- The second stage: the records follow the axle's unit (R25). -/
def Machine.State.axleSettled (s : State) (a : Fin 10) (r : AxleRecord) : State := (s.axleWritten a r).unitChange a (s.axle a)

/-- The unit of an axle moves while the trailer is ABSENT (R25). -/
def Machine.State.UnitMoves (s : State) (a : Fin 10) (r : AxleRecord) : Prop :=
  s.vehicle.trailer = .absent ∧ r.unit ≠ (s.axle a).unit

theorem Machine.State.axleSettled_eq (s : State) (a : Fin 10) (r : AxleRecord) :
    (¬ s.UnitMoves a r → s.axleSettled a r = s.axleWritten a r)
    ∧ (s.UnitMoves a r → r.unit = .trailer → s.axleSettled a r = (s.axleWritten a r).detachAll (axlePositions a))
    ∧ (s.UnitMoves a r → r.unit = .truck → s.axleSettled a r
        = ((s.axleWritten a r).atEach (axlePositions a) State.attachAt).atEach (axlePositions a) State.clearPair) := by
  have moves : ((s.axleWritten a r).vehicle.trailer = .absent ∧ (s.axle a).unit ≠ ((s.axleWritten a r).axle a).unit)
      ↔ s.UnitMoves a r := by
    rw [State.axleWritten_vehicle, State.axleWritten_axle, if_pos rfl, ne_comm]
    rfl
  have unit : ((s.axleWritten a r).axle a).unit = r.unit := by rw [State.axleWritten_axle, if_pos rfl]
  unfold State.axleSettled State.unitChange
  refine ⟨fun stays => if_neg (mt moves.1 stays), fun yes trailer => ?_, fun yes truck => ?_⟩
  · rw [if_pos (moves.2 yes), unit, trailer]
  · rw [if_pos (moves.2 yes), unit, truck]

theorem Machine.State.truck_or_trailer (r : AxleRecord) : r.unit = .trailer ∨ r.unit = .truck := by
  cases r.unit
  · exact .inr rfl
  · exact .inl rfl

theorem Machine.State.attachedAxle_wheel (s : State) (a : Fin 10) (p : Pos) :
    ((s.atEach (axlePositions a) State.attachAt).atEach (axlePositions a) State.clearPair).wheel p
      = if (s.axle p.axle).kind = .dual ∧ p.axle = a
        then { (s.atEach (axlePositions a) State.attachAt).wheel p with
          conditions := ((s.atEach (axlePositions a) State.attachAt).wheel p).conditions.put .imbalance false }
        else (s.atEach (axlePositions a) State.attachAt).wheel p := by
  have rest : (s.atEach (axlePositions a) State.attachAt).rest = s.rest :=
    State.atEach_same State.rest _ State.attachAt_rest _ _
  rw [State.clearPairEach_wheel, State.axle_of_rest rest]
  simp only [mem_axlePositions_iff, Pos.pairLow_axle, Pos.pairHigh_axle, or_self]

theorem Machine.State.axleSettled_away {s : State} {a : Fin 10} {r : AxleRecord} {p : Pos} (h : p.axle ≠ a) :
    (s.axleSettled a r).wheel p = s.wheel p := by
  have written : (s.axleWritten a r).wheel p = s.wheel p := State.axleWritten_same fun here => absurd here h
  have out : p ∉ axlePositions a := fun m => h ((mem_axlePositions_iff p a).1 m)
  obtain ⟨stays, trailer, truck⟩ := s.axleSettled_eq a r
  by_cases moves : s.UnitMoves a r
  · rcases State.truck_or_trailer r with unit | unit
    · rw [trailer moves unit, (State.detachAxles_wheel _ _ p fun q hq => by simp only [mem_axlePositions_iff, hq]).1 out, written]
    · rw [truck moves unit, State.attachedAxle_wheel, if_neg fun c => h c.2, State.attachEach_wheel, if_neg fun c => out c.1,
        written]
  · rw [stays moves, written]

theorem Machine.State.axleSettled_empty {s : State} {a : Fin 10} {r : AxleRecord} {p : Pos}
    (h : (s.axleWritten a r).wheel p = .empty) : (s.axleSettled a r).wheel p = .empty := by
  obtain ⟨stays, trailer, truck⟩ := s.axleSettled_eq a r
  have state : ((s.axleWritten a r).wheel p).state = .empty := by rw [h]; rfl
  by_cases moves : s.UnitMoves a r
  · rcases State.truck_or_trailer r with unit | unit
    · rw [trailer moves unit, State.detachAll_wheel]
      dsimp only
      rw [if_neg fun m => by simpa [WheelRecord.detaches, state] using (List.mem_filter.1 m).2]
      split
      · exact upToImbalance_empty h
      · exact h
    · have attached : ((s.axleWritten a r).atEach (axlePositions a) State.attachAt).wheel p = .empty := by
        rw [State.attachEach_wheel, if_neg fun c => by rw [state] at c; cases c.2]
        exact h
      rw [truck moves unit, State.attachedAxle_wheel]
      split
      · exact upToImbalance_empty attached
      · exact attached
  · rw [stays moves, h]

/-- Settling an axle raises no IMBALANCE. -/
theorem Machine.State.axleSettled_imbalance {s : State} {a : Fin 10} {r : AxleRecord} {p : Pos}
    (h : (s.axleWritten a r).active p .imbalance = false) : (s.axleSettled a r).active p .imbalance = false := by
  obtain ⟨stays, trailer, truck⟩ := s.axleSettled_eq a r
  have cleared (u : WheelRecord) : ({ u with conditions := u.conditions.put .imbalance false } : WheelRecord).conditions.has
      .imbalance = false := (Conditions.has_put u.conditions .imbalance .imbalance false).trans (if_pos rfl)
  unfold State.active at h ⊢
  by_cases moves : s.UnitMoves a r
  · rcases State.truck_or_trailer r with unit | unit
    · rw [trailer moves unit, State.detachAll_wheel]
      dsimp only
      split
      · rfl
      · split
        · exact cleared _
        · exact h
    · have attached : (((s.axleWritten a r).atEach (axlePositions a) State.attachAt).wheel p).conditions.has .imbalance = false := by
        rw [State.attachEach_wheel]
        split <;> exact h
      rw [truck moves unit, State.attachedAxle_wheel]
      split
      · exact cleared _
      · exact attached
  · rw [stays moves]
    exact h

/-- No record of an axle that becomes a detached TRAILER axle stays LIVE. -/
theorem Machine.State.axleSettled_trailer {s : State} {a : Fin 10} {r : AxleRecord} {p : Pos} (here : p.axle = a)
    (moves : s.UnitMoves a r) (unit : r.unit = .trailer) :
    ((s.axleSettled a r).wheel p).livePressure = none
    ∧ (((s.axleWritten a r).wheel p).detaches = true →
        (s.axleSettled a r).wheel p = Claims.detached ((s.axleWritten a r).wheel p)) := by
  obtain ⟨_, moved, kept⟩ := State.detachAxles_wheel (s.axleWritten a r) (axlePositions a) p
    fun q hq => by simp only [mem_axlePositions_iff, hq]
  have inn : p ∈ axlePositions a := (mem_axlePositions_iff p a).2 here
  rw [(s.axleSettled_eq a r).2.1 moves unit]
  refine ⟨?_, moved inn⟩
  cases d : ((s.axleWritten a r).wheel p).detaches
  · rw [(kept inn d).livePressure]
    have idle := mt (detaches_iff _).2 (Bool.eq_false_iff.1 d)
    unfold WheelRecord.livePressure
    split
    · next live _ => rw [live] at idle; simp at idle
    · rfl
  · rw [moved inn d]
    rfl

/-- A DETACHED record of an axle that becomes a TRUCK axle waits for its first entry (R19, R25). -/
theorem Machine.State.axleSettled_truck {s : State} {a : Fin 10} {r : AxleRecord} {p : Pos} (here : p.axle = a)
    (moves : s.UnitMoves a r) (unit : r.unit = .truck) (detached : ((s.axleWritten a r).wheel p).state = .detached) :
    Claims.UpToImbalance ((s.axleSettled a r).wheel p) (((s.axleWritten a r).wheel p).attach (s.axleWritten a r).uptime) := by
  have attached : ((s.axleWritten a r).atEach (axlePositions a) State.attachAt).wheel p
      = ((s.axleWritten a r).wheel p).attach (s.axleWritten a r).uptime := by
    rw [State.attachEach_wheel, if_pos ⟨(mem_axlePositions_iff p a).2 here, detached⟩]
  rw [(s.axleSettled_eq a r).2.2 moves unit, State.attachedAxle_wheel, attached]
  split
  · exact upToImbalance_put _ _
  · exact upToImbalance_refl _

end Sys2Proof

/-! ## A new axle record as a whole -/

namespace Sys2Proof
open Machine Safety
open Machine.State (Clears)

/-! ### The lifted set -/

@[simp] theorem Machine.State.dropLift_wheels (s : State) (a : Fin 10) : (s.dropLift a).wheels = s.wheels := by
  unfold State.dropLift
  split <;> rfl

@[simp] theorem Machine.State.dropLift_alerts (s : State) (a : Fin 10) : (s.dropLift a).alerts = s.alerts := by
  unfold State.dropLift
  split <;> rfl

@[simp] theorem Machine.State.dropLift_slots (s : State) (a : Fin 10) : (s.dropLift a).slots = s.slots := by
  unfold State.dropLift
  split <;> rfl

@[simp] theorem Machine.State.dropLift_axle (s : State) (a b : Fin 10) : (s.dropLift a).axle b = s.axle b := by
  unfold State.dropLift
  split <;> rfl

@[simp] theorem Machine.State.dropLift_levelsOf (s : State) (a b : Fin 10) : (s.dropLift a).levelsOf b = s.levelsOf b := by
  unfold State.dropLift
  split <;> rfl

theorem Machine.State.dropLift_pairVerdict (s : State) (a : Fin 10) (p : Pos) :
    (s.dropLift a).pairVerdict p = s.pairVerdict p := by
  unfold State.pairVerdict
  simp only [State.dropLift_axle, State.dropLift_levelsOf, State.wheel_of_wheels (s.dropLift_wheels a)]

theorem Machine.State.Judges.withLifted {t u : State} (h : t.Judges u) (x : BitVec 10) :
    State.Judges { t with vehicle := { t.vehicle with lifted := x } } { u with vehicle := { u.vehicle with lifted := x } } :=
  ⟨(congrArg (fun y : State => { y with vehicle := { y.vehicle with lifted := x } }) h.rest :), h.grown⟩

theorem Machine.State.Judges.dropLift {t u : State} (h : t.Judges u) (a : Fin 10) : (t.dropLift a).Judges (u.dropLift a) := by
  have vehicle : t.vehicle = u.vehicle := (congrArg State.vehicle h.rest :)
  have axle : t.axle a = u.axle a := State.axle_of_rest h.rest a
  have dropped := (h.withLifted (u.vehicle.lifted &&& ~~~BitVec.twoPow 10 a.val)).setFlagBoth .vehicle
  unfold State.dropLift
  rw [vehicle, axle]
  split
  · rw [← vehicle] at dropped ⊢
    exact dropped
  · exact h

/-! ### The frame of the edit -/

theorem Machine.State.emptyAll_grown (s : State) (ps : List Pos) : (s.emptyAll ps).Grown s :=
  (foldl_grown State.blank (fun _ _ => .of_ports rfl rfl) ps (s.clearRecords ps)).trans (s.clearRecords_clears ps).grown

theorem Machine.State.axleWritten_judges (s : State) (a : Fin 10) (r : AxleRecord) :
    (s.axleWritten a r).Judges { s.writeAxle a r with slots := (s.axleWritten a r).slots } where
  rest := (congrArg (fun x : State => { x.writeAxle a r with slots := (s.axleWritten a r).slots })
    (s.emptyAll_mapless (s.slotsLost a r)) :)
  grown := s.emptyAll_grown (s.slotsLost a r)

theorem Machine.State.unitChange_judges (s : State) (a : Fin 10) (old : AxleRecord) : (s.unitChange a old).Judges s where
  rest := s.unitChange_rest a old
  grown := by
    unfold State.unitChange
    split
    · split
      · exact (s.detachAll_judges _).grown
      · refine State.Grown.trans (foldl_grown _ (fun t p => (t.clearPair_clears p).grown) _ _)
          (foldl_grown _ (fun t p => ?_) _ s)
        unfold State.attachAt
        split <;> exact .of_ports rfl rfl
    · exact .refl s

theorem Machine.State.axleSettled_slots (s : State) (a : Fin 10) (r : AxleRecord) :
    (s.axleSettled a r).slots = (s.axleWritten a r).slots :=
  (congrArg State.slots (State.unitChange_rest _ a _) :)

theorem Machine.State.axleSettled_judges (s : State) (a : Fin 10) (r : AxleRecord) :
    (s.axleSettled a r).Judges { s.writeAxle a r with slots := (s.axleSettled a r).slots } := by
  rw [State.axleSettled_slots]
  exact (State.unitChange_judges _ a _).trans (s.axleWritten_judges a r)

theorem Machine.State.setBand_grown (s : State) (p : Pos) (b : Band) : (s.setBand p b).Grown s := by
  have cleared (k : Option Condition) : (s.clearOpt p k).Grown s := by
    cases k with
    | none => exact .refl s
    | some k => exact s.clearCond_grown p k
  have raised (t : State) (k : Option Condition) : (t.raiseOpt p k).Grown t := by
    cases k with
    | none => exact .refl t
    | some k => exact t.raiseCond_grown p k
  exact (raised _ _).trans ((State.modWheel_grown _ p _).trans (cleared _))

theorem Machine.State.reevaluateAt_grown (s : State) (p : Pos) : (s.reevaluateAt p).Grown s := by
  unfold State.reevaluateAt
  split
  · exact (State.modWheel_grown _ p _).trans (foldl_grown _ (fun t b => t.setBand_grown p b) _ s)
  · exact .refl s

theorem Machine.State.checkPair_grown (s : State) (p : Pos) : (s.checkPair p).Grown s := by
  unfold State.checkPair
  split
  · split
    · dsimp only
      split
      · exact (State.raiseCond_grown _ _ _).trans (State.raiseCond_grown _ _ _)
      · split
        · exact (s.clearPair_clears p).grown
        · exact .refl s
    · exact .refl s
  · exact .refl s

theorem Machine.State.targetChange_judges (s : State) (f : Fin 10 → Bool) : (s.targetChange f).Judges s where
  rest := s.targetChange_rest f
  grown := foldl_grown _ (fun t a => ((t.atEach (axlePositions a) State.reevaluateAt).checkPair ⟨a, 0⟩).checkPair_grown ⟨a, 2⟩
    |>.trans ((State.checkPair_grown _ ⟨a, 0⟩).trans (foldl_grown _ State.reevaluateAt_grown _ t))) _ s

/-! ### The stages together -/

theorem Machine.State.setAxle_eq (s : State) (a : Fin 10) (r : AxleRecord) :
    s.setAxle a r = if (s.axle a).profile ≠ r.profile then ((s.axleSettled a r).dropLift a).targetChange (fun b => b == a)
      else (s.axleSettled a r).dropLift a := rfl

theorem Machine.State.setAxle_judges (s : State) (a : Fin 10) (r : AxleRecord) :
    (s.setAxle a r).Judges (State.dropLift { s.writeAxle a r with slots := (s.setAxle a r).slots } a) := by
  have dropped := (s.axleSettled_judges a r).dropLift a
  rw [State.setAxle_eq]
  split
  · have slots : (((s.axleSettled a r).dropLift a).targetChange fun b => b == a).slots = (s.axleSettled a r).slots :=
      (congrArg State.slots (State.targetChange_rest _ _) : _).trans (State.dropLift_slots _ a)
    rw [slots]
    exact (State.targetChange_judges _ _).trans dropped
  · rw [State.dropLift_slots]
    exact dropped

theorem Machine.State.setAxle_slotId (s : State) (a : Fin 10) (r : AxleRecord) (p : Pos) :
    (s.setAxle a r).slotId p = if p ∈ s.slotsLost a r then none else s.slotId p := by
  have slots : (s.setAxle a r).slots = (s.axleWritten a r).slots := by
    rw [State.setAxle_eq, ← State.axleSettled_slots]
    split
    · exact (congrArg State.slots (State.targetChange_rest _ _) : _).trans (State.dropLift_slots _ a)
    · exact State.dropLift_slots _ a
  calc (s.setAxle a r).slotId p = (s.emptyAll (s.slotsLost a r)).slotId p := by unfold State.slotId; rw [slots]; rfl
    _ = _ := State.emptyAll_slotId s _ p

theorem Machine.State.axleSettled_axle (s : State) (a b : Fin 10) (r : AxleRecord) :
    (s.axleSettled a r).axle b = if a = b then r else s.axle b := by
  unfold State.axleSettled
  rw [State.axle_of_rest (State.unitChange_rest _ a _), State.axleWritten_axle]

theorem Machine.State.setAxle_axle (s : State) (a b : Fin 10) (r : AxleRecord) :
    (s.setAxle a r).axle b = if a = b then r else s.axle b := by
  rw [← s.axleSettled_axle a b r, ← (s.axleSettled a r).dropLift_axle a b, State.setAxle_eq]
  split
  · exact State.axle_of_rest (State.targetChange_rest _ _) b
  · rfl

theorem Machine.State.setAxle_levelsOf (s : State) (a b : Fin 10) (r : AxleRecord) :
    (s.setAxle a r).levelsOf b = (s.axleSettled a r).levelsOf b := by
  rw [← (s.axleSettled a r).dropLift_levelsOf a b, State.setAxle_eq]
  split
  · exact State.levelsOf_of_rest (State.targetChange_rest _ _) b
  · rfl

/-- A new record whose profile differs re-evaluates the settled axle, if it is left present (R24, R96). -/
theorem Machine.State.setAxle_wheel (s : State) (a : Fin 10) (r : AxleRecord) (p : Pos) :
    (s.setAxle a r).wheel p
      = if (s.axle a).profile ≠ r.profile ∧ r.present = true ∧ p.axle = a
        then (((s.axleSettled a r).wheel p).reevaluated ((s.axleSettled a r).levelsOf p.axle)).withImbalance
          ((s.axleSettled a r).pairVerdict p)
        else (s.axleSettled a r).wheel p := by
  have present : (((s.axleSettled a r).dropLift a).axle a).present = r.present := by
    rw [State.dropLift_axle, State.axleSettled_axle, if_pos rfl]
  rw [State.setAxle_eq, ← State.wheel_of_wheels (State.dropLift_wheels (s.axleSettled a r) a), ← State.dropLift_levelsOf _ a,
    ← State.dropLift_pairVerdict _ a]
  by_cases profile : (s.axle a).profile ≠ r.profile
  · rw [if_pos profile, State.targetChange_one, present]
    by_cases stays : r.present = true
    · rw [if_pos stays, State.reevaluateAxle_wheel]
      simp only [profile, stays, true_and, ne_eq, not_false_eq_true]
    · rw [if_neg stays, if_neg fun c => stays c.2.1]
  · rw [if_neg profile, if_neg fun c => profile c.1]

end Sys2Proof

/-! ## What a new axle record does to each wheel record -/

namespace Sys2Proof
open Machine Safety

/-! ### Empty records -/

theorem invalid_empty {s : State} (map : MapLaw s) (record : RecordLaw s) {p : Pos} (h : s.validPos p = false) :
    s.slotId p = none ∧ s.wheel p = .empty := by
  have free : s.slotId p = none := Option.eq_none_iff_forall_ne_some.2 fun id held => by
    rw [(map.valid p id held).2] at h
    cases h
  exact ⟨free, record.values p ((record.empty p).2 free)⟩

theorem Machine.State.axleWritten_empty {s : State} {a : Fin 10} {r : AxleRecord} {p : Pos} (h : s.wheel p = .empty) :
    (s.axleWritten a r).wheel p = .empty := by
  rw [State.axleWritten_wheel, State.clearRecords_wheel]
  split
  · rfl
  · split
    · exact upToImbalance_empty h
    · exact h

/-- Re-evaluation leaves a record that is not LIVE. -/
theorem Machine.State.setAxle_idle {s : State} {a : Fin 10} {r : AxleRecord} {p : Pos}
    (h : ((s.axleSettled a r).wheel p).livePressure = none) : (s.setAxle a r).wheel p = (s.axleSettled a r).wheel p := by
  rw [State.setAxle_wheel, WheelRecord.reevaluated_idle h, State.pairVerdict_self h]
  split <;> rfl

theorem Machine.State.setAxle_blank {s : State} {a : Fin 10} {r : AxleRecord} {p : Pos}
    (h : (s.axleWritten a r).wheel p = .empty) : (s.setAxle a r).wheel p = .empty := by
  have settled := State.axleSettled_empty h
  rw [State.setAxle_idle (by rw [settled]; rfl), settled]

theorem Machine.State.setAxle_empty {s : State} {a : Fin 10} (r : AxleRecord) {p : Pos} (h : s.wheel p = .empty) :
    (s.setAxle a r).wheel p = .empty := State.setAxle_blank (State.axleWritten_empty h)

theorem Machine.State.setAxle_away {s : State} {a : Fin 10} {r : AxleRecord} {p : Pos} (h : p.axle ≠ a) :
    (s.setAxle a r).wheel p = s.wheel p := by
  rw [State.setAxle_wheel, if_neg fun c => h c.2.2, State.axleSettled_away h]

/-- A slot of the axle that the new record makes invalid ends empty (R24). -/
theorem Machine.State.setAxle_lost {s : State} (map : MapLaw s) (record : RecordLaw s) {a : Fin 10} {r : AxleRecord} {p : Pos}
    (here : p.axle = a) (lost : r.validSlot p.slot = false) :
    (s.setAxle a r).slotId p = none ∧ (s.setAxle a r).wheel p = .empty := by
  rw [State.setAxle_slotId]
  by_cases valid : s.validPos p = true
  · have mem : p ∈ s.slotsLost a r := State.mem_slotsLost.2 ⟨here, valid, lost⟩
    exact ⟨if_pos mem, State.setAxle_blank (by rw [State.axleWritten_wheel, if_pos mem])⟩
  · obtain ⟨free, empty⟩ := invalid_empty map record (Bool.eq_false_iff.2 valid)
    rw [free, ite_self]
    exact ⟨rfl, State.setAxle_empty r empty⟩

/-! ### Records whose slot stays -/

theorem Machine.State.not_mem_slotsLost {s : State} {a : Fin 10} {r : AxleRecord} {p : Pos} (kept : r.validSlot p.slot = true) :
    p ∉ s.slotsLost a r := fun m => by
  rw [(State.mem_slotsLost.1 m).2.2] at kept
  cases kept

/-- A record of an axle that becomes a detached TRAILER axle (R19, R25). -/
theorem Machine.State.setAxle_detached {s : State} {a : Fin 10} {r : AxleRecord} {p : Pos} (here : p.axle = a)
    (kept : r.validSlot p.slot = true) (moves : s.UnitMoves a r) (unit : r.unit = .trailer)
    (detaches : (s.wheel p).detaches = true) : (s.setAxle a r).wheel p = Claims.detached (s.wheel p) := by
  have written := State.axleWritten_kept (State.not_mem_slotsLost kept : p ∉ s.slotsLost a r)
  obtain ⟨idle, moved⟩ := State.axleSettled_trailer here moves unit
  have still : ((s.axleWritten a r).wheel p).detaches = true := by
    rw [detaches_iff, written.state, ← detaches_iff]
    exact detaches
  rw [State.setAxle_idle idle, moved still, written.detached]

/-- A DETACHED record of an axle that becomes a TRUCK axle (R19, R25). -/
theorem Machine.State.setAxle_attached {s : State} {a : Fin 10} {r : AxleRecord} {p : Pos} (here : p.axle = a)
    (kept : r.validSlot p.slot = true) (moves : s.UnitMoves a r) (unit : r.unit = .truck)
    (detached : (s.wheel p).state = .detached) :
    Claims.UpToImbalance ((s.setAxle a r).wheel p) ((s.wheel p).attach s.uptime) := by
  have written := State.axleWritten_kept (State.not_mem_slotsLost kept : p ∉ s.slotsLost a r)
  have uptime : (s.axleWritten a r).uptime = s.uptime := (congrArg State.uptime (s.emptyAll_mapless (s.slotsLost a r)) :)
  have attached := State.axleSettled_truck here moves unit (written.state.trans detached)
  rw [uptime] at attached
  have settled := attached.trans (written.attach s.uptime)
  have idle : ((s.axleSettled a r).wheel p).livePressure = none := by
    rw [settled.livePressure]
    simp [WheelRecord.attach, WheelRecord.livePressure]
  rw [State.setAxle_idle idle]
  exact settled

theorem Machine.State.setAxle_kept {s : State} {a : Fin 10} {r : AxleRecord} {p : Pos} (kept : r.validSlot p.slot = true)
    (stays : ¬ s.UnitMoves a r) (idle : r.profile = (s.axle a).profile ∨ (s.wheel p).livePressure = none) :
    Claims.UpToImbalance ((s.setAxle a r).wheel p) (s.wheel p) := by
  have written := State.axleWritten_kept (State.not_mem_slotsLost kept : p ∉ s.slotsLost a r)
  rw [← (s.axleSettled_eq a r).1 stays] at written
  rcases idle with same | idle
  · rw [State.setAxle_wheel, if_neg fun c => c.1 same.symm]
    exact written
  · rw [State.setAxle_idle (written.livePressure.trans idle)]
    exact written

/-- A LIVE record of an axle whose profile changes (R96, R97). -/
theorem Machine.State.setAxle_reevaluated {s : State} {a : Fin 10} {r : AxleRecord} {p : Pos} (here : p.axle = a)
    (kept : r.validSlot p.slot = true) (stays : ¬ s.UnitMoves a r) (profile : r.profile ≠ (s.axle a).profile) {c : Int}
    (live : (s.wheel p).livePressure = some c) :
    Claims.UpToImbalance ((s.setAxle a r).wheel p) (Claims.reevaluated ((s.setAxle a r).levelsOf a) c (s.wheel p)) := by
  have written := State.axleWritten_kept (State.not_mem_slotsLost kept : p ∉ s.slotsLost a r)
  rw [← (s.axleSettled_eq a r).1 stays] at written
  have present : r.present = true := ((validSlot_iff r p.slot).1 kept).1
  rw [State.setAxle_wheel, if_pos ⟨profile.symm, present, here⟩, State.setAxle_levelsOf, here,
    WheelRecord.reevaluated_live (written.livePressure.trans live)]
  exact (upToImbalance_verdict _ _).trans (written.reevaluated _ c)

/-! ### IMBALANCE -/

theorem Machine.State.setAxle_imbalance {s : State} {a : Fin 10} {r : AxleRecord} {p : Pos}
    (quiet : r.present = true → p.axle = a → (s.axleSettled a r).pairVerdict p = none) :
    (s.setAxle a r).active p .imbalance = (s.axleSettled a r).active p .imbalance := by
  unfold State.active
  rw [State.setAxle_wheel]
  split
  · next c => rw [quiet c.2.1 c.2.2, WheelRecord.withImbalance_has, WheelRecord.reevaluated_imbalance, Option.getD_none]
  · rfl

/-- A DUAL axle that ends absent or SINGLE holds no IMBALANCE (R20, R24). -/
theorem Machine.State.setAxle_cleared {s : State} {a : Fin 10} {r : AxleRecord} {p : Pos} (here : p.axle = a)
    (present : (s.axle a).present = true) (dual : (s.axle a).kind = .dual) (ends : r.present = false ∨ r.kind = .single) :
    (s.setAxle a r).active p .imbalance = false := by
  rw [State.setAxle_imbalance fun stays _ => ?_]
  · exact State.axleSettled_imbalance (State.axleWritten_cleared here present dual ends)
  · have single := ends.resolve_left fun gone => by rw [gone] at stays; cases stays
    exact State.pairVerdict_idle (.inl (by rw [State.axleSettled_axle, if_pos here.symm, single]))

/-- On an axle that was absent or SINGLE, the inner slot of each pair holds no sensor. -/
theorem inner_empty {s : State} (map : MapLaw s) (record : RecordLaw s) {p : Pos}
    (h : (s.axle p.axle).present = false ∨ (s.axle p.axle).kind = .single) :
    s.wheel p.pairLow = .empty ∨ s.wheel p.pairHigh = .empty := by
  have inner (q : Pos) (hq : q.axle = p.axle) (k : q.slot = 1 ∨ q.slot = 2) : s.wheel q = .empty := by
    refine (invalid_empty map record (Bool.eq_false_iff.2 fun valid => ?_)).2
    obtain ⟨stays, dual⟩ := AxleRecord.dual_of_validSlot k valid
    rw [hq] at stays dual
    rcases h with gone | single
    · rw [gone] at stays; cases stays
    · rw [single] at dual; cases dual
  by_cases front : p.slot.val < 2
  · exact .inr (inner p.pairHigh rfl (.inl (Fin.ext (show 2 * (p.slot.val / 2) + 1 = 1 by omega))))
  · have bound := p.slot.isLt
    exact .inl (inner p.pairLow rfl (.inr (Fin.ext (show 2 * (p.slot.val / 2) = 2 by omega))))

theorem Machine.State.setAxle_quiet {s : State} (map : MapLaw s) (record : RecordLaw s) {a : Fin 10} {r : AxleRecord} {p : Pos}
    (here : p.axle = a) (kept : r.validSlot p.slot = true) (stays : ¬ s.UnitMoves a r)
    (before : (s.axle a).present = false ∨ (s.axle a).kind = .single) :
    (s.setAxle a r).active p .imbalance = s.active p .imbalance := by
  have same : (s.axleWritten a r).wheel p = s.wheel p := State.axleWritten_same fun _ =>
    ⟨State.not_mem_slotsLost kept, fun present dual => by
      rcases before with gone | single
      · rw [gone] at present; cases present
      · rw [single] at dual; cases dual⟩
  have idle (q : Pos) (h : s.wheel q = .empty) : ((s.axleSettled a r).wheel q).livePressure = none := by
    rw [State.axleSettled_empty (State.axleWritten_empty h)]
    rfl
  rw [State.setAxle_imbalance fun _ _ => State.pairVerdict_idle (.inr ((inner_empty map record (here ▸ before)).imp (idle _) (idle _)))]
  unfold State.active
  rw [(s.axleSettled_eq a r).1 stays, same]

/-! ### A record of the same axle and kind -/

theorem Machine.State.axleSettled_same {s : State} {a : Fin 10} {r : AxleRecord} (present : r.present = (s.axle a).present)
    (kind : r.kind = (s.axle a).kind) (stays : ¬ s.UnitMoves a r) : s.axleSettled a r = s.writeAxle a r := by
  have none : s.slotsLost a r = [] := List.eq_nil_iff_forall_not_mem.2 fun p m => by
    obtain ⟨here, valid, lost⟩ := State.mem_slotsLost.1 m
    rw [AxleRecord.validSlot, present, kind, ← here] at lost
    exact absurd (valid.symm.trans lost) (by decide)
  rw [(s.axleSettled_eq a r).1 stays, State.axleWritten, none]
  rfl

theorem Machine.State.setAxle_same {s : State} {a : Fin 10} {r : AxleRecord} (present : r.present = (s.axle a).present)
    (kind : r.kind = (s.axle a).kind) (stays : ¬ s.UnitMoves a r) (profile : r.profile = (s.axle a).profile) :
    (s.setAxle a r).wheels = s.wheels ∧ (s.setAxle a r).alerts = s.alerts := by
  rw [State.setAxle_eq, if_neg fun ne => ne profile.symm, State.axleSettled_same present kind stays, State.dropLift_wheels,
    State.dropLift_alerts]
  exact ⟨rfl, rfl⟩

/-- A re-evaluation reads the records of the state before alone. -/
theorem Claims.Reevaluated.of_wheels {s u t : State} {affected : Fin 10 → Prop} (h : Claims.Reevaluated u t affected)
    (same : u.wheels = s.wheels) : Claims.Reevaluated s t affected := by
  unfold Claims.Reevaluated Claims.LiveAt State.active at h ⊢
  simp only [State.wheel_of_wheels same] at h
  exact h

theorem Claims.Reevaluated.of_wheels_after {s u t : State} {affected : Fin 10 → Prop} (h : Claims.Reevaluated s u affected)
    (same : t.wheels = u.wheels) (axle : ∀ b, t.axle b = u.axle b) (levels : ∀ b, t.levelsOf b = u.levelsOf b) :
    Claims.Reevaluated s t affected := by
  unfold Claims.Reevaluated State.active at h ⊢
  simp only [State.wheel_of_wheels same, axle, levels]
  exact h

theorem Machine.State.setAxle_reevaluates {s : State} {a : Fin 10} {r : AxleRecord} (present : r.present = (s.axle a).present)
    (kind : r.kind = (s.axle a).kind) (stays : ¬ s.UnitMoves a r) (profile : r.profile ≠ (s.axle a).profile) :
    Claims.Reevaluated s (s.setAxle a r) (fun b => b = a ∧ r.present = true) := by
  have settled := State.axleSettled_same present kind stays
  have moved : Claims.Reevaluated (s.axleSettled a r) (s.setAxle a r) (fun b => b = a ∧ r.present = true) :=
    Claims.reevaluated_of_wheel (s.setAxle_levelsOf a · r)
      (fun b => (s.setAxle_axle a b r).trans (s.axleSettled_axle a b r).symm)
      (fun q h => by rw [State.setAxle_wheel, if_pos ⟨profile.symm, h.2, h.1⟩])
      (fun q h => by rw [State.setAxle_wheel, if_neg fun c => h ⟨c.2.2, c.2.1⟩])
  exact moved.of_wheels (by rw [settled]; rfl)

end Sys2Proof

/-! ## MAP_SET_AXLE -/

namespace Sys2Proof
open Machine Safety

/-! ### The codes of an axle record -/

theorem flagOf_eq_some {n : Nat} {b : Bool} : flagOf n = some b ↔ n = if b then 1 else 0 := by
  match n with
  | 0 => cases b <;> simp [flagOf]
  | 1 => cases b <;> simp [flagOf]
  | n + 2 => cases b <;> simp [flagOf]

theorem unitOf_eq_some {n : Nat} {u : AxleUnit} : unitOf n = some u ↔ n = match u with | .truck => 0 | .trailer => 1 := by
  match n with
  | 0 => cases u <;> simp [unitOf]
  | 1 => cases u <;> simp [unitOf]
  | n + 2 => cases u <;> simp [unitOf]

theorem kindOf_eq_some {n : Nat} {k : AxleKind} : kindOf n = some k ↔ n = match k with | .single => 0 | .dual => 1 := by
  match n with
  | 0 => cases k <;> simp [kindOf]
  | 1 => cases k <;> simp [kindOf]
  | n + 2 => cases k <;> simp [kindOf]

theorem codesName_iff {present unit kind profile tip lift : Byte} {r : AxleRecord} :
    Claims.CodesName present unit kind profile tip lift r
      ↔ StoredAxle.decode ⟨present.toNat, unit.toNat, kind.toNat, profile.toNat, tip.toNat, lift.toNat⟩ = some r := by
  rw [StoredAxle.decode_eq_some, flagOf_eq_some, unitOf_eq_some, kindOf_eq_some, profileOf, slotOf_eq_some, flagOf_eq_some,
    flagOf_eq_some]
  exact Iff.rfl

/-! ### The frame of the edit -/

/-- The axle leaves the lifted set (R24). -/
def Machine.State.Drops (s : State) (a : Fin 10) (r : AxleRecord) : Prop :=
  s.vehicle.lifted.getLsbD a.val = true ∧ (r.present = false ∨ r.liftCapable = false)

/-- A state with a new axle record, slot map and lifted set. -/
def Machine.State.axleFrame (s : State) (a : Fin 10) (r : AxleRecord) (slots : Vector (Option SensorId) 40) (lifts : BitVec 10) :
    State :=
  { s with axles := s.axles.set a.val r a.isLt, slots := slots, vehicle := { s.vehicle with lifted := lifts } }

theorem Machine.State.dropLift_axleFrame (s : State) (a : Fin 10) (r : AxleRecord) (slots : Vector (Option SensorId) 40) :
    (s.Drops a r → State.dropLift { s.writeAxle a r with slots := slots } a
      = (s.axleFrame a r slots (s.vehicle.lifted &&& ~~~BitVec.twoPow 10 a.val)).setFlagBoth .vehicle)
    ∧ (¬ s.Drops a r → State.dropLift { s.writeAxle a r with slots := slots } a = s.axleFrame a r slots s.vehicle.lifted) := by
  have axle : State.axle { s.writeAxle a r with slots := slots } a = r := (s.writeAxle_axle a a r).trans (if_pos rfl)
  have test : (s.vehicle.lifted.getLsbD a.val && !(r.present && r.liftCapable)) = true ↔ s.Drops a r := by
    simp only [State.Drops, Bool.and_eq_true, Bool.not_eq_true', Bool.and_eq_false_iff]
  unfold State.dropLift
  rw [axle]
  exact ⟨fun drops => if_pos (test.2 drops), fun stays => if_neg (mt test.1 stays)⟩

theorem Claims.edited_axleFrame (s : State) (q : PortId) (a : Fin 10) (r : AxleRecord) (slots : Vector (Option SensorId) 40)
    (lifts : BitVec 10) :
    { Claims.edited s q with
      axles := s.axles.set a.val r a.isLt, slots := slots, vehicle := { s.vehicle with lifted := lifts } }
      = Claims.edited (s.axleFrame a r slots lifts) q := by
  cases q <;> rfl

theorem lifted_without (x : BitVec 10) (a b : Fin 10) :
    (x &&& ~~~BitVec.twoPow 10 a.val).getLsbD b.val = true ↔ x.getLsbD b.val = true ∧ b ≠ a := by
  have inside : b.val < 10 := b.isLt
  rw [ne_comm]
  simp only [BitVec.getLsbD_and, BitVec.getLsbD_not, BitVec.getLsbD_twoPow, inside, a.isLt, decide_true, Bool.true_and,
    Bool.and_eq_true, Bool.not_eq_true', decide_eq_false_iff_not, ne_eq, Fin.ext_iff]

/-- A flag set on both ports before or after the reply of an edit. -/
theorem setFlagBoth_edited (u : State) (e : EventFlag) (q : PortId) :
    (Claims.edited (u.setFlagBoth e) q).Judges ((Claims.edited u q).setFlagBoth e) := by
  have rest : (State.setFlagBoth { u.setFlagBoth e with generation := (u.setFlagBoth e).generation + 1 } .image).rest
      = (State.setFlagBoth { u with generation := u.generation + 1 } .image).rest := by
    rw [State.setFlagBoth_rest, State.setFlagBoth_rest]
    exact (congrArg (fun x : State => { x with generation := x.generation + 1 }) (u.setFlagBoth_rest e) :)
  refine ⟨?_, 0, by decide, fun r => ?_⟩
  · rw [State.setFlagBoth_rest]
    exact State.answer_rest rest q _ _
  · have flags : ((u.setFlagBoth e).port r).flags = (u.port r).flags ||| e.bit := u.setFlagBoth_flags e r
    unfold Claims.edited
    rw [State.setFlagBoth_flags, State.answer_flags, State.answer_flags, State.setFlagBoth_flags, State.setFlagBoth_flags,
      show ∀ x : BitVec 11, x ||| 0 = x from fun _ => BitVec.or_zero]
    show ((u.setFlagBoth e).port r).flags ||| _ = (u.port r).flags ||| _ ||| _
    rw [flags, BitVec.or_assoc, BitVec.or_comm e.bit, BitVec.or_assoc]

theorem Machine.State.editTaken_slots (s : State) (w : Bool) : (s.editTaken w).slots = s.slots :=
  (congrArg State.slots ((State.Judges.refl s).editTaken w).rest :)

/-- What the edit answers, but for wheel records, alert list and judged flags (R14, R24). -/
theorem setAxle_framed (s : State) (q : PortId) (a : Fin 10) (r : AxleRecord) (w : Bool) :
    let t := ((s.setAxle a r).editTaken w).answer q .ok []
    ∃ lifts : BitVec 10,
      (∀ b : Fin 10, lifts.getLsbD b.val = true ↔ s.vehicle.lifted.getLsbD b.val = true ∧ ¬ (b = a ∧ s.Drops a r))
      ∧ (s.Drops a r → JudgedFrom t (State.setFlagBoth { Claims.edited s q with
            axles := s.axles.set a.val r a.isLt
            slots := t.slots
            vehicle := { s.vehicle with lifted := lifts } } .vehicle))
      ∧ (¬ s.Drops a r → JudgedFrom t { Claims.edited s q with
            axles := s.axles.set a.val r a.isLt
            slots := t.slots
            vehicle := { s.vehicle with lifted := lifts } }) := by
  intro t
  have slots : t.slots = (s.setAxle a r).slots := (State.answer_slots _ q _ _).trans (State.editTaken_slots _ w)
  have judges : t.Judges (Claims.edited (State.dropLift { s.writeAxle a r with slots := t.slots } a) q) := by
    rw [slots]
    exact ((s.setAxle_judges a r).editTaken w).answer q .ok []
  obtain ⟨dropped, kept⟩ := s.dropLift_axleFrame a r t.slots
  by_cases drops : s.Drops a r
  · refine ⟨s.vehicle.lifted &&& ~~~BitVec.twoPow 10 a.val, fun b => ?_, fun _ => ?_, fun stays => absurd drops stays⟩
    · simp only [lifted_without, drops, and_true, ne_eq]
    · rw [dropped drops] at judges
      rw [Claims.edited_axleFrame]
      exact (judges.trans (setFlagBoth_edited _ .vehicle q)).judgedFrom
  · refine ⟨s.vehicle.lifted, fun b => by simp only [drops, and_false, not_false_eq_true, and_true], fun d => absurd d drops,
      fun _ => ?_⟩
    rw [kept drops] at judges
    rw [Claims.edited_axleFrame]
    exact judges.judgedFrom

/-! ### The records of the edit -/

theorem Claims.edited_axle (s : State) (q : PortId) (b : Fin 10) : (Claims.edited s q).axle b = s.axle b := by cases q <;> rfl

theorem Claims.edited_levelsOf (s : State) (q : PortId) (b : Fin 10) : (Claims.edited s q).levelsOf b = s.levelsOf b := by
  cases q <;> rfl

/-- What the statement asks of each record, slot by slot of the edited axle or outside it (R24, R25, R96, R97). -/
theorem setAxle_taken {s : State} (map : MapLaw s) (record : RecordLaw s) (q : PortId) (a : Fin 10) (r : AxleRecord) (p : Pos) :
    let t := ((s.setAxle a r).editTaken (wheelsChanged s (s.setAxle a r))).answer q .ok []
    let old := s.axle a
    let lost := p.axle = a ∧ ¬ Claims.ValidSlot r p.slot
    t.slotId p = (if p.axle = a ∧ (s.validPos p && !r.validSlot p.slot) = true then none else s.slotId p)
    ∧ (p.axle ≠ a → t.wheel p = s.wheel p)
    ∧ (lost → t.slotId p = none ∧ t.wheel p = .empty)
    ∧ (p.axle = a → ¬ lost → s.UnitMoves a r → r.unit = .trailer → (s.wheel p).state ≠ .empty →
        (s.wheel p).state ≠ .detached → t.wheel p = Claims.detached (s.wheel p) ∧ Claims.Flagged t .wheel)
    ∧ (p.axle = a → ¬ lost → s.UnitMoves a r → r.unit = .truck → (s.wheel p).state = .detached →
        Claims.UpToImbalance (t.wheel p) { s.wheel p with state := .awaiting, silenceRef := some s.uptime }
        ∧ Claims.Flagged t .wheel)
    ∧ ((s.wheel p).state = .empty → t.wheel p = s.wheel p)
    ∧ (p.axle = a → ¬ lost → ¬ s.UnitMoves a r → r.profile = old.profile → Claims.UpToImbalance (t.wheel p) (s.wheel p))
    ∧ (p.axle = a → ¬ lost → ¬ s.UnitMoves a r → r.profile ≠ old.profile →
        ((∀ c, ¬ Claims.LiveAt s p c) → Claims.UpToImbalance (t.wheel p) (s.wheel p))
        ∧ ∀ c, Claims.LiveAt s p c → Claims.UpToImbalance (t.wheel p) (Claims.reevaluated (t.levelsOf a) c (s.wheel p)))
    ∧ (p.axle = a → old.present = true → old.kind = .dual → r.present = false ∨ r.kind = .single →
        t.active p .imbalance = false)
    ∧ (p.axle = a → ¬ lost → ¬ s.UnitMoves a r → old.present = false ∨ old.kind = .single →
        t.active p .imbalance = s.active p .imbalance)
    ∧ (r.present = old.present → r.kind = old.kind → ¬ s.UnitMoves a r → r.profile = old.profile →
        t.wheels = s.wheels ∧ t.alerts = s.alerts)
    ∧ (r.present = old.present → r.kind = old.kind → ¬ s.UnitMoves a r → r.profile ≠ old.profile →
        Claims.Reevaluated s t (fun b => b = a ∧ r.present = true)) := by
  intro t old lost
  have judges : t.Judges (Claims.edited (s.setAxle a r) q) := ((State.Judges.refl _).editTaken _).answer q _ _
  have wheels : t.wheels = (s.setAxle a r).wheels := (State.answer_wheels _ q _ _).trans (State.editTaken_wheels _ _)
  have alerts : t.alerts = (s.setAxle a r).alerts := (State.answer_alerts _ q _ _).trans (State.editTaken_alerts _ _)
  have slots : t.slots = (s.setAxle a r).slots := (State.answer_slots _ q _ _).trans (State.editTaken_slots _ _)
  have axle (b : Fin 10) : t.axle b = (s.setAxle a r).axle b := (State.axle_of_rest judges.rest b).trans (Claims.edited_axle _ q b)
  have levels (b : Fin 10) : t.levelsOf b = (s.setAxle a r).levelsOf b :=
    (State.levelsOf_of_rest judges.rest b).trans (Claims.edited_levelsOf _ q b)
  have slotId : t.slotId p = (s.setAxle a r).slotId p := by simp only [State.slotId, slots]
  have active : t.active p .imbalance = (s.setAxle a r).active p .imbalance := by
    unfold State.active
    rw [State.wheel_of_wheels wheels]
  have flagged (h : (s.wheel p).state ≠ ((s.setAxle a r).wheel p).state) : Claims.Flagged t .wheel := by
    have changed := wheelsChanged_of_ne (judged_ne_of_state h)
    exact Claims.Flagged.answer (by rw [changed]; exact Claims.flagged_editTaken _) q _ _
  have keeps (here : p.axle = a) (kept : ¬ lost) : r.validSlot p.slot = true :=
    (validSlot_iff r p.slot).2 (not_not.1 fun bad => kept ⟨here, bad⟩)
  rw [State.wheel_of_wheels wheels, levels, active, slotId]
  refine ⟨?_, State.setAxle_away, fun gone => ?_, fun here kept moves unit full attached => ?_,
    fun here kept moves unit detached => ?_, fun empty => ?_, fun here kept stays profile => ?_,
    fun here kept stays profile => ⟨fun idle => ?_, fun c live => ?_⟩, State.setAxle_cleared,
    fun here kept stays before => ?_, fun present kind stays profile => ?_, fun present kind stays profile => ?_⟩
  · rw [State.setAxle_slotId]
    simp only [State.mem_slotsLost, Bool.and_eq_true, Bool.not_eq_true']
  · exact State.setAxle_lost map record gone.1 (Bool.eq_false_iff.2 (mt (validSlot_iff r p.slot).1 gone.2))
  · have moved := State.setAxle_detached here (keeps here kept) moves unit ((detaches_iff _).2 ⟨full, attached⟩)
    exact ⟨moved, flagged (by rw [moved]; exact attached)⟩
  · have moved := State.setAxle_attached here (keeps here kept) moves unit detached
    exact ⟨moved, flagged (by rw [moved.state, detached]; exact nofun)⟩
  · have same := record.values p empty
    rw [State.setAxle_empty r same, same]
  · exact State.setAxle_kept (keeps here kept) stays (.inl profile)
  · exact State.setAxle_kept (keeps here kept) stays (.inr ((not_liveAt_iff s p).1 idle))
  · exact State.setAxle_reevaluated here (keeps here kept) stays profile ((liveAt_iff s p c).1 live)
  · exact State.setAxle_quiet map record here (keeps here kept) stays before
  · rw [wheels, alerts]
    exact State.setAxle_same present kind stays profile
  · exact (State.setAxle_reevaluates present kind stays profile).of_wheels_after wheels axle levels

/-- MAP_SET_AXLE with codes in range, outside the load. -/
theorem exec_mapSetAxle {s : State} {q : PortId} (takes : Claims.Takes s q) (l : s.loading = false)
    {x present unit kind profile tip lift : Byte} {a : Fin 10} {r : AxleRecord} (axle : x.toNat = a.val)
    (codes : Claims.CodesName present unit kind profile tip lift r) {expected : Generation} {f : Option Status}
    (hf : s.axleEditFailure expected a = f) :
    exec (.mapSetAxle q expected x present unit kind profile tip lift) s
      = .next (f.elim (((s.setAxle a r).editTaken (wheelsChanged s (s.setAxle a r))).answer q .ok []) fun st => s.answer q st []) := by
  refine (next_loaded takes l _).trans ?_
  rw [axleOf_eq_some.2 axle, codesName_iff.1 codes]
  dsimp only
  rw [hf]
  cases f <;> rfl

/-- MAP_SET_AXLE with an axle or a code out of range, outside the load (R23). -/
theorem exec_mapSetAxle_range {s : State} {q : PortId} (takes : Claims.Takes s q) (l : s.loading = false)
    {x present unit kind profile tip lift : Byte} (expected : Generation)
    (bad : 9 < x.toNat ∨ ¬ ∃ r, Claims.CodesName present unit kind profile tip lift r) :
    exec (.mapSetAxle q expected x present unit kind profile tip lift) s = .next (s.answer q .range []) := by
  refine (next_loaded takes l _).trans ?_
  split
  · next a r axle codes =>
    rcases bad with beyond | unnamed
    · have := axleOf_eq_some.1 axle
      omega
    · exact absurd ⟨r, codesName_iff.2 codes⟩ unnamed
  · rfl

/-- Settles O46: the checks in their order, then `setAxle_framed` and `setAxle_taken`. -/
theorem setAxleWritesOneRecordWhole : Obligations.SetAxleWritesOneRecordWhole := by
  unfold Obligations.SetAxleWritesOneRecordWhole
  intro s q expected x present unit kind profile tip lift takes map record
  dsimp only
  refine ⟨fun l => next_busy takes l _, fun l bad => exec_mapSetAxle_range takes l expected bad, fun a r l axle codes => ?_⟩
  have set (f : Option Status) (hf : s.axleEditFailure expected a = f) := exec_mapSetAxle takes l axle codes hf
  simp only [State.axleEditFailure, firstFailure_cons, firstFailure_nil] at set
  have unguarded (ng : ¬ Claims.Protected s a.val) : s.protectedAxle a.val = false := by
    rw [Bool.eq_false_iff, ne_eq, protectedAxle_iff]; exact ng
  have idle (nb : ¬ Claims.InSession s a.val) : s.sessionAxle a.val = false := by
    rw [Bool.eq_false_iff, ne_eq, sessionAxle_iff]; exact nb
  refine ⟨fun stale => set (some .stale) (by simp [stale]), fun cur g => set (some .underProtection) ?_,
    fun cur ng b => set (some .busy) ?_, fun cur ng nb => ?_⟩
  · simp [not_not.1 cur, (protectedAxle_iff s a.val).2 g]
  · simp [not_not.1 cur, unguarded ng, (sessionAxle_iff s a.val).2 b]
  · obtain ⟨lifts, bits, dropped, kept⟩ := setAxle_framed s q a r (wheelsChanged s (s.setAxle a r))
    exact ⟨_, lifts, set none (by simp [not_not.1 cur, unguarded ng, idle nb]), bits, ⟨dropped, kept⟩,
      setAxle_taken map record q a r⟩

end Sys2Proof

/-! ## What every command leaves of the receive path, the store and the load -/

namespace Sys2Proof
open Machine Safety

/-- What the laws of receivers and queue and of the store read, with the basis of the verdict. -/
def Machine.State.path (s : State) : Receiver × Receiver × List QueueEntry × Store × Supply × Nonvolatile × Basis :=
  (s.rx0, s.rx1, s.queue, s.store, s.supply, s.nonvolatile, s.permit.basis)

/-- What R159 names of a part that is LOADING. -/
def Machine.State.blocks (s : State) : State :=
  { State.reset with
    queue := s.queue
    axles := s.axles
    slots := s.slots
    protect := s.protect
    profiles := s.profiles
    config := s.config
    generation := s.generation
    wheels := s.wheels
    alerts := s.alerts
    learn := ⟨s.learn.session, .none⟩
    portA := { Port.reset with staging := s.portA.staging }
    portB := { Port.reset with staging := s.portB.staging } }

/-! ### Updates of neither -/

theorem Machine.State.path_of_mapless {s t : State} (h : t.mapless = s.mapless) (b : t.permit.basis = s.permit.basis) :
    t.path = s.path := by
  unfold State.path
  rw [b]
  exact (congrArg (fun x : State => (x.rx0, x.rx1, x.queue, x.store, x.supply, x.nonvolatile, s.permit.basis)) h :)

theorem Machine.State.path_of_rest {s t : State} (h : t.rest = s.rest) (b : t.permit.basis = s.permit.basis) : t.path = s.path :=
  State.path_of_mapless (State.mapless_of_rest h) b

theorem Machine.State.evaluate_basis (s : State) : s.evaluate.permit.basis = s.permit.basis := by
  rw [State.evaluate_permit]
  split
  · next h => exact h.symm
  · rfl

@[simp] theorem Machine.State.setPort_path (s : State) (q : PortId) (x : Port) : (s.setPort q x).path = s.path := by
  cases q <;> rfl
@[simp] theorem Machine.State.answer_path (s : State) (q : PortId) (st : Status) (bs : List Byte) :
    (s.answer q st bs).path = s.path := State.setPort_path s q _
@[simp] theorem Machine.State.refuse_path (s : State) (q : PortId) (st : Status) : (s.refuse q st).path = s.path :=
  State.setPort_path s q _
@[simp] theorem Machine.State.setFlagBoth_path (s : State) (e : EventFlag) : (s.setFlagBoth e).path = s.path := rfl
@[simp] theorem Machine.State.setFlagIf_path (s : State) (c : Bool) (e : EventFlag) : (s.setFlagIf c e).path = s.path := by
  cases c <;> rfl
@[simp] theorem Machine.State.noteWheels_path (b a : State) : (b.noteWheels a).path = a.path := State.setFlagIf_path a _ _
@[simp] theorem Machine.State.evaluate_path (s : State) : s.evaluate.path = s.path :=
  State.path_of_rest s.evaluate_rest s.evaluate_basis
@[simp] theorem Machine.State.vehicleTaken_path (s : State) (q : PortId) (item : Nat) (v : Half) :
    (s.vehicleTaken q item v).path = s.path := (State.answer_path _ q _ _).trans (State.setPort_path s _ _)
@[simp] theorem Machine.State.editTaken_path (s : State) (w : Bool) : (s.editTaken w).path = s.path :=
  (State.evaluate_path _).trans (State.setFlagIf_path _ w _)
@[simp] theorem Machine.State.endSession_path (s : State) (o : LearnOutcome) : (s.endSession o).path = s.path := rfl
@[simp] theorem Machine.State.targetChange_path (s : State) (f : Fin 10 → Bool) : (s.targetChange f).path = s.path :=
  State.path_of_rest (s.targetChange_rest f) (by rw [s.targetChange_permit f])
@[simp] theorem Machine.State.takeExpiries_path (s : State) : s.takeExpiries.path = s.path :=
  (State.evaluate_path _).trans
    ((State.noteWheels_path s _).trans (State.path_of_rest s.expireDue_rest (by rw [s.expireDue_permit])))
@[simp] theorem Machine.State.expireTimer_path (s : State) : s.expireTimer.path = s.path := by
  unfold State.expireTimer
  split <;> rfl

@[simp] theorem Machine.State.setFlagBoth_blocks (s : State) (e : EventFlag) : (s.setFlagBoth e).blocks = s.blocks := rfl
@[simp] theorem Machine.State.setFlagIf_blocks (s : State) (c : Bool) (e : EventFlag) : (s.setFlagIf c e).blocks = s.blocks := by
  cases c <;> rfl
@[simp] theorem Machine.State.noteWheels_blocks (b a : State) : (b.noteWheels a).blocks = a.blocks := State.setFlagIf_blocks a _ _
@[simp] theorem Machine.State.putPermit_blocks (s : State) (x : Permit) : (s.putPermit x).blocks = s.blocks :=
  State.setFlagIf_blocks _ _ _
@[simp] theorem Machine.State.evaluate_blocks (s : State) : s.evaluate.blocks = s.blocks := by
  unfold State.evaluate
  split <;> simp
theorem Machine.State.setPort_blocks (s : State) (q : PortId) (x : Port) (h : x.staging = (s.port q).staging) :
    (s.setPort q x).blocks = s.blocks := by
  cases q
  · have h : x.staging = s.portA.staging := h
    simp only [State.blocks, State.setPort, h]
  · have h : x.staging = s.portB.staging := h
    simp only [State.blocks, State.setPort, h]
@[simp] theorem Machine.State.answer_blocks (s : State) (q : PortId) (st : Status) (bs : List Byte) :
    (s.answer q st bs).blocks = s.blocks := State.setPort_blocks s q _ rfl
@[simp] theorem Machine.State.refuse_blocks (s : State) (q : PortId) (st : Status) : (s.refuse q st).blocks = s.blocks :=
  State.setPort_blocks s q _ rfl
@[simp] theorem Machine.State.vehicleTaken_blocks (s : State) (q : PortId) (item : Nat) (v : Half) :
    (s.vehicleTaken q item v).blocks = s.blocks := (State.answer_blocks _ q _ _).trans (State.setPort_blocks s _ _ rfl)

/-! ### Blocks at their defaults -/

theorem wheel_of_blocks {s : State} (h : s.blocks = State.reset) (p : Pos) : s.wheel p = .empty := by
  have wheels : s.wheels = State.reset.wheels := (congrArg State.wheels h :)
  rw [State.wheel_of_wheels wheels, reset_wheel]

theorem axle_of_blocks {s : State} (h : s.blocks = State.reset) (a : Fin 10) : s.axle a = .default := by
  have axles : s.axles = State.reset.axles := (congrArg State.axles h :)
  rw [State.axle, axles]
  exact reset_axle a

theorem queue_of_blocks {s : State} (h : s.blocks = State.reset) : s.queue = [] := (congrArg State.queue h :)

theorem session_of_blocks {s : State} (h : s.blocks = State.reset) : s.learn.session = none :=
  (congrArg (fun x : State => x.learn.session) h :)

/-- No axle is present, so no target change affects one (R96). -/
theorem targetChange_of_blocks {s : State} (h : s.blocks = State.reset) (f : Fin 10 → Bool) : s.targetChange f = s := by
  have nobody : (List.finRange 10).filter (fun a => (s.axle a).present && f a) = [] :=
    List.filter_eq_nil_iff.2 fun a _ => by rw [axle_of_blocks h]; simp [AxleRecord.default]
  rw [State.targetChange, nobody]
  rfl

/-- No EMPTY record expires (R94). -/
theorem expiryDue_of_blocks {s : State} (h : s.blocks = State.reset) (p : Pos) : s.expiryDue p = false := by
  simp [State.expiryDue, wheel_of_blocks h, WheelRecord.empty, WheelState.expires]

theorem expireDue_of_blocks {s : State} (h : s.blocks = State.reset) : s.expireDue = s :=
  List.foldl_fixed' (fun p => by rw [expiryDue_of_blocks h]; rfl) _

theorem takeExpiries_of_blocks {s : State} (h : s.blocks = State.reset) : s.takeExpiries.blocks = State.reset := by
  rw [State.takeExpiries, expireDue_of_blocks h, State.evaluate_blocks, State.noteWheels_blocks, h]

/-- No EMPTY record is attached (R19). -/
theorem attachTrailer_of_blocks {s : State} (h : s.blocks = State.reset) : s.attachTrailer = s :=
  List.foldl_fixed' (fun p => by simp [State.attachAt, wheel_of_blocks h, WheelRecord.empty]) _

theorem detachTrailer_of_blocks {s : State} (h : s.blocks = State.reset) : s.detachTrailer = s := by
  have nobody : allPos.filter (fun p => (s.axle p.axle).present && (s.axle p.axle).unit == .trailer) = [] :=
    List.filter_eq_nil_iff.2 fun p _ => by rw [axle_of_blocks h]; simp [AxleRecord.default]
  rw [State.detachTrailer, nobody]
  rfl

end Sys2Proof

/-! ## Commands that leave the receive path, the store and the load -/

namespace Sys2Proof
open Machine Safety
open Machine.Result (gives_next)

theorem Machine.State.loading_of_path {s t : State} (h : t.path = s.path) : t.loading = s.loading := by
  have store : t.store = s.store := congrArg (fun x => x.2.2.2.1) h
  simp only [State.loading, store]

/-- An event leaves the receive path, supply and store, and the blocks of a part that is LOADING (R159). -/
structure Machine.State.Aside (s t : State) : Prop where
  path : t.path = s.path
  blocks : s.loading = true → s.blocks = State.reset → t.blocks = State.reset

namespace Machine.State.Aside

theorem of_eq {s t : State} (path : t.path = s.path) (blocks : t.blocks = s.blocks) : s.Aside t :=
  ⟨path, fun _ h => blocks.trans h⟩

theorem refl (s : State) : s.Aside s := of_eq rfl rfl

theorem trans {s t u : State} (h : s.Aside t) (g : t.Aside u) : s.Aside u :=
  ⟨g.path.trans h.path, fun l b => g.blocks ((State.loading_of_path h.path).trans l) (h.blocks l b)⟩

theorem answer {s t : State} (h : s.Aside t) (q : PortId) (st : Status) (bs : List Byte) : s.Aside (t.answer q st bs) :=
  ⟨(t.answer_path q st bs).trans h.path, fun l b => (t.answer_blocks q st bs).trans (h.blocks l b)⟩

theorem refuse (s : State) (q : PortId) (st : Status) : s.Aside (s.refuse q st) := (refl s).answer q st []

theorem vehicleTaken {s t : State} (h : s.Aside t) (q : PortId) (item : Nat) (v : Half) : s.Aside (t.vehicleTaken q item v) :=
  ⟨(t.vehicleTaken_path q item v).trans h.path, fun l b => (t.vehicleTaken_blocks q item v).trans (h.blocks l b)⟩

theorem evaluate {s t : State} (h : s.Aside t) : s.Aside t.evaluate :=
  ⟨t.evaluate_path.trans h.path, fun l b => t.evaluate_blocks.trans (h.blocks l b)⟩

theorem noteWheels {s t : State} (h : s.Aside t) (b : State) : s.Aside (b.noteWheels t) :=
  ⟨(b.noteWheels_path t).trans h.path, fun l d => (b.noteWheels_blocks t).trans (h.blocks l d)⟩

theorem transact {s : State} (q : PortId) {f : State → State} (h : s.Aside (f s)) : s.Aside (s.transact q f) :=
  State.transact_cases s.Aside h (of_eq (s.setPort_path q _) (s.setPort_blocks q _ rfl))

/-- A command that the load answers with BUSY (R159) need only leave the path. -/
theorem unlessLoading {s : State} (q : PortId) {f : State → State} (h : (f s).path = s.path) : s.Aside (s.unlessLoading q f) := by
  refine transact q ?_
  cases l : s.loading
  · exact ⟨h, fun y => by simp [l] at y⟩
  · exact refuse s q .busy

/-- A session that the trailer's leaving cancels is none of a part that is LOADING (R138, R159). -/
theorem cancelTrailerSession {s t : State} (h : s.Aside t) : s.Aside t.cancelTrailerSession := by
  refine ⟨?_, fun l b => ?_⟩
  · unfold State.cancelTrailerSession
    split
    · split
      · exact h.path
      · exact h.path
    · exact h.path
  · rw [State.cancelTrailerSession, session_of_blocks (h.blocks l b)]
    exact h.blocks l b

end Machine.State.Aside

open Machine.State (Aside)

/-! ### Map edits and results of learning -/

@[simp] theorem Machine.State.emptyAll_path (s : State) (ps : List Pos) : (s.emptyAll ps).path = s.path :=
  State.path_of_mapless (s.emptyAll_mapless ps) (by rw [State.emptyAll_permit])

@[simp] theorem Machine.State.freshAt_path (s : State) (p : Pos) (id : SensorId) : (s.freshAt p id).path = s.path :=
  State.path_of_mapless (s.freshAt_mapless p id) (by simp [State.freshAt])

theorem Machine.State.assign_path (s : State) (p : Pos) (id : SensorId) : (s.assign p id).path = s.path := by
  unfold State.assign
  split <;> simp

theorem Machine.State.remove_path (s : State) (p : Pos) : (s.remove p).path = s.path := by
  unfold State.remove
  split <;> simp [State.emptyAt_eq]

theorem Machine.State.move_path (s : State) (m : Move) : (s.move m).path = s.path := by
  rw [State.move_eq, State.editTaken_path]
  have permit : (s.moved m).permit = s.permit := (s.moveClearings_clears m).permit
  exact State.path_of_mapless (s.moved_mapless m) (by rw [permit])

theorem Machine.State.unitChange_path (s : State) (a : Fin 10) (old : AxleRecord) : (s.unitChange a old).path = s.path := by
  refine State.path_of_rest (s.unitChange_rest a old) ?_
  unfold State.unitChange
  split
  · split
    · rw [State.detachAll_permit]
    · rw [State.atEach_same State.permit _ State.clearPair_permit, State.atEach_same State.permit _ State.attachAt_permit]
  · rfl

theorem Machine.State.dropLift_path (s : State) (a : Fin 10) : (s.dropLift a).path = s.path := by
  unfold State.dropLift
  split <;> rfl

theorem Machine.State.setAxle_path (s : State) (a : Fin 10) (r : AxleRecord) : (s.setAxle a r).path = s.path := by
  have settled : ((s.axleSettled a r).dropLift a).path = s.path := by
    rw [State.dropLift_path, State.axleSettled, State.unitChange_path]
    exact s.emptyAll_path (s.slotsLost a r)
  rw [State.setAxle_eq]
  split
  · rw [State.targetChange_path, settled]
  · exact settled

theorem Machine.State.placeStaged_path (s : State) (e : Pos × Option SensorId) : (s.placeStaged e).path = s.path := by
  unfold State.placeStaged
  split
  · rfl
  · split
    · split <;> simp [State.emptyAt_eq]
    · simp

theorem Machine.State.applyResult_path (s : State) (staging : List (Pos × Option SensorId)) :
    (s.applyResult staging).path = s.path :=
  (State.setFlagIf_path _ _ _).trans (foldl_same State.path _ State.placeStaged_path staging s)

theorem Machine.State.advance_path (s : State) (l : Session) (id : Option SensorId) : (s.advance l id).path = s.path := by
  unfold State.advance
  split
  · exact s.applyResult_path _
  · dsimp only
    split
    · rfl
    · exact s.applyResult_path _

/-! ### Commands that the load answers with BUSY -/

theorem aside_portReset (s : State) (q : PortId) : Result.Gives s.Aside (execPortReset q s) :=
  gives_next (.unlessLoading q ((State.answer_path _ q _ _).trans (State.setPort_path _ q _)))

theorem aside_read (s : State) (q : PortId) (f : State → List Byte) :
    Result.Gives s.Aside (.next (s.unlessLoading q fun s => s.answer q .ok (f s))) :=
  gives_next (.unlessLoading q (State.answer_path _ q _ _))

theorem aside_checkedRead (s : State) (q : PortId) (c : Prop) [Decidable c] (f : State → List Byte) :
    Result.Gives s.Aside (.next (s.unlessLoading q fun s => if c then s.answer q .ok (f s) else s.refuse q .range)) := by
  refine gives_next (.unlessLoading q ?_)
  split <;> simp

theorem aside_readWheels (s : State) (q : PortId) (a b c d : Byte) : Result.Gives s.Aside (execReadWheels q a b c d s) := by
  refine gives_next (.unlessLoading q ?_)
  split
  · exact State.answer_path _ q _ _
  · exact State.refuse_path _ q _

theorem aside_ackAlert (s : State) (q : PortId) (a b c : Byte) : Result.Gives s.Aside (execAckAlert q a b c s) := by
  refine gives_next (.unlessLoading q ?_)
  split
  · exact State.answer_path _ q _ _
  · exact State.refuse_path _ q _

theorem aside_setConfig (s : State) (q : PortId) (item : Byte) (v : BitVec 32) : Result.Gives s.Aside (execSetConfig q item v s) := by
  refine gives_next (.unlessLoading q ?_)
  split
  · exact State.refuse_path _ q _
  · next i _ =>
    rw [State.answer_path]
    cases i
    case movingLimit => exact State.takeExpiries_path _
    case stoppedLimit => exact State.takeExpiries_path _
    case learnTimeout => exact State.expireTimer_path _
    all_goals rfl

theorem aside_mapAssign (s : State) (q : PortId) (g : Generation) (a k : Byte) (id : SensorId) :
    Result.Gives s.Aside (execMapAssign q g a k id s) := by
  refine gives_next (.unlessLoading q ?_)
  split
  · exact State.refuse_path _ q _
  · split
    · exact State.refuse_path _ q _
    · rw [State.answer_path, State.assign_path]

theorem aside_mapRemove (s : State) (q : PortId) (g : Generation) (a k : Byte) :
    Result.Gives s.Aside (execMapRemove q g a k s) := by
  refine gives_next (.unlessLoading q ?_)
  split
  · exact State.refuse_path _ q _
  · split
    · exact State.refuse_path _ q _
    · rw [State.answer_path, State.remove_path]

theorem aside_mapSetAxle (s : State) (q : PortId) (g : Generation) (a b c d e f l : Byte) :
    Result.Gives s.Aside (execMapSetAxle q g a b c d e f l s) := by
  refine gives_next (.unlessLoading q ?_)
  split
  · split
    · exact State.refuse_path _ q _
    · rw [State.answer_path, State.editTaken_path, State.setAxle_path]
  · exact State.refuse_path _ q _

theorem aside_mapMove (s : State) (q : PortId) (g : Generation) (a b c d e f n : Byte) :
    Result.Gives s.Aside (execMapMove q g a b c d e f n s) := by
  refine gives_next (.unlessLoading q ?_)
  split
  · exact State.refuse_path _ q _
  · split
    · exact State.refuse_path _ q _
    · rw [State.answer_path, State.move_path]

theorem aside_mapProtect (s : State) (q : PortId) (g : Generation) (a b c : Byte) :
    Result.Gives s.Aside (execMapProtect q g a b c s) := by
  refine gives_next (.unlessLoading q ?_)
  split
  · exact State.refuse_path _ q _
  · split
    · exact State.refuse_path _ q _
    · exact State.answer_path _ q _ _

theorem aside_profileSelect (s : State) (q : PortId) (n f : Byte) : Result.Gives s.Aside (execProfileSelect q n f s) := by
  refine gives_next (.unlessLoading q ?_)
  split
  · rw [State.answer_path, State.loadStaging, State.setStaging, State.setPort_path]
  · exact State.refuse_path _ q _

theorem Machine.State.commitProfile_path (s : State) (n : Fin 4) (c : Profile) : (s.commitProfile n c).path = s.path :=
  (State.evaluate_path _).trans ((State.noteWheels_path _ _).trans (State.targetChange_path _ _))

theorem Machine.State.writeStaged_path (s : State) (q : PortId) (g : Staging) (v : Int) : (s.writeStaged q g v).path = s.path := by
  unfold State.writeStaged
  dsimp only
  split
  · rw [State.answer_path, State.setStaging, State.setPort_path]
  · split
    · rw [State.answer_path, State.loadStaging, State.setStaging, State.setPort_path, State.commitProfile_path]
    · rw [State.answer_path, State.setStaging, State.setPort_path]

theorem aside_profileWrite (s : State) (q : PortId) (v : Half) : Result.Gives s.Aside (execProfileWrite q v s) := by
  refine gives_next (.unlessLoading q ?_)
  split
  · exact State.refuse_path _ q _
  · exact s.writeStaged_path q _ _

theorem aside_profileRead (s : State) (q : PortId) (n : Byte) : Result.Gives s.Aside (execProfileRead q n s) := by
  refine gives_next (.unlessLoading q ?_)
  split
  · exact State.refuse_path _ q _
  · exact State.answer_path _ q _ _

theorem aside_learnSkip (s : State) (q : PortId) : Result.Gives s.Aside (execLearnSkip q s) := by
  refine gives_next (.unlessLoading q ?_)
  split
  · exact State.refuse_path _ q _
  · dsimp only
    rw [State.answer_path]
    split <;> simp [State.advance_path]

theorem aside_learnFinish (s : State) (q : PortId) : Result.Gives s.Aside (execLearnFinish q s) := by
  refine gives_next (.unlessLoading q ?_)
  split
  · exact State.refuse_path _ q _
  · rw [State.answer_path, State.evaluate_path, State.endSession_path, State.applyResult_path]

theorem aside_learnAbort (s : State) (q : PortId) : Result.Gives s.Aside (execLearnAbort q s) := by
  refine gives_next (.unlessLoading q ?_)
  split
  · exact State.refuse_path _ q _
  · exact State.answer_path _ q _ _

/-! ### Commands that the load takes -/

/-- LEARN_START judges the load itself (R129). -/
theorem aside_learnStart (s : State) (q : PortId) (g : Generation) (first last : Byte) :
    Result.Gives s.Aside (execLearnStart q g first last s) := by
  refine gives_next (.transact q ?_)
  split
  · exact .refuse s q _
  · next passes =>
    refine ⟨State.answer_path _ q _ _, fun l _ => ?_⟩
    simp [State.learnStartFailure, l] at passes

theorem aside_malformedCommandFrame (s : State) (q : PortId) (sdi : List Bool) :
    Result.Gives s.Aside (execMalformedCommandFrame q sdi s) := by
  refine gives_next (.transact q ?_)
  split
  · exact .refuse s q _
  · exact .refl s

theorem aside_reply (s : State) (q : PortId) (g : State → List Byte) :
    Result.Gives s.Aside (.next (s.transact q fun s => s.answer q .ok (g s))) :=
  gives_next (.transact q ((Aside.refl s).answer q _ _))

/-- A port written with its staging kept, and a reply. -/
theorem aside_portWrite (s : State) (q : PortId) (f : State → Port) (g : State → List Byte)
    (h : (f s).staging = (s.port q).staging) :
    Result.Gives s.Aside (.next (s.transact q fun s => (s.setPort q (f s)).answer q .ok (g s))) :=
  gives_next (.transact q ((Aside.of_eq (s.setPort_path q _) (s.setPort_blocks q _ h)).answer q _ _))

/-! ### Vehicle-state items -/

theorem aside_withVehicle (s : State) (v : Vehicle) : s.Aside { s with vehicle := v } := .of_eq rfl rfl

theorem aside_targetChange (s : State) (f : Fin 10 → Bool) : s.Aside (s.targetChange f) :=
  ⟨s.targetChange_path f, fun _ b => by rw [targetChange_of_blocks b]; exact b⟩

theorem aside_takeExpiries (s : State) : s.Aside s.takeExpiries :=
  ⟨s.takeExpiries_path, fun _ b => takeExpiries_of_blocks b⟩

theorem aside_attachTrailer (s : State) : s.Aside s.attachTrailer :=
  ⟨State.path_of_rest s.attachTrailer_rest (by rw [State.attachTrailer_permit]),
    fun _ b => by rw [attachTrailer_of_blocks b]; exact b⟩

theorem aside_detachTrailer (s : State) : s.Aside s.detachTrailer :=
  ⟨State.path_of_rest s.detachTrailer_rest (by rw [State.detachTrailer_permit]),
    fun _ b => by rw [detachTrailer_of_blocks b]; exact b⟩

/-- A body write leaves the basis, STARTING or EVALUATED (R120, R122). -/
theorem aside_permitBodyWrite (s : State) (before : BodyState) : s.Aside (s.permitBodyWrite before) := by
  unfold State.permitBodyWrite
  split
  · exact (Aside.refl s).evaluate
  · exact .of_eq (State.path_of_rest (State.putPermit_rest _ _) (by rw [State.putPermit_permit])) (State.putPermit_blocks _ _)

theorem aside_writeTrailer (s : State) (q : PortId) (x : TrailerState) : s.Aside (s.writeTrailer q x) := by
  have written : s.Aside (s.withTrailer q x) := aside_withVehicle s _
  refine Aside.evaluate ?_
  dsimp only
  split
  · exact written.trans ((aside_attachTrailer _).noteWheels _)
  · exact written.trans ((aside_detachTrailer _).noteWheels _).cancelTrailerSession
  · exact written

theorem aside_writeLifted (s : State) (q : PortId) (x : BitVec 10) : s.Aside (s.writeLifted q x) := by
  unfold State.writeLifted
  dsimp only
  split
  · exact (aside_withVehicle s _).evaluate
  · exact (aside_withVehicle s _).trans (aside_takeExpiries _)

theorem aside_setVehicleLoad (s : State) (q : PortId) (v : Half) : Result.Gives s.Aside (execSetVehicleLoad q v s) := by
  refine gives_next (.transact q ?_)
  split
  · exact .refuse s q _
  · exact ((aside_withVehicle s _).trans ((aside_targetChange _ _).noteWheels _)).evaluate.vehicleTaken q 0 v

theorem aside_setVehicleBody (s : State) (q : PortId) (v : Half) : Result.Gives s.Aside (execSetVehicleBody q v s) := by
  refine gives_next (.transact q ?_)
  split
  · exact .refuse s q _
  · exact ((aside_withVehicle s _).trans (aside_permitBodyWrite _ _)).vehicleTaken q 1 v

theorem aside_setVehicleTrailer (s : State) (q : PortId) (v : Half) : Result.Gives s.Aside (execSetVehicleTrailer q v s) := by
  refine gives_next (.transact q ?_)
  split
  · exact .refuse s q _
  · exact (aside_writeTrailer s q _).vehicleTaken q 2 v

theorem aside_setVehicleMotion (s : State) (q : PortId) (v : Half) : Result.Gives s.Aside (execSetVehicleMotion q v s) := by
  refine gives_next (.transact q ?_)
  split
  · exact .refuse s q _
  · exact ((aside_withVehicle s _).trans (aside_takeExpiries _)).vehicleTaken q 3 v

theorem aside_setVehicleLiftedSet (s : State) (q : PortId) (v : Half) :
    Result.Gives s.Aside (execSetVehicleLiftedSet q v s) := by
  refine gives_next (.transact q ?_)
  split
  · exact .refuse s q _
  · exact (aside_writeLifted s q _).vehicleTaken q 4 _

theorem aside_setVehicleAmbient (s : State) (q : PortId) (v : Half) : Result.Gives s.Aside (execSetVehicleAmbient q v s) :=
  gives_next (.transact q ((aside_withVehicle s _).vehicleTaken q 5 _))

/-! ### Expiries -/

theorem aside_silenceExpiry (s : State) (a : Fin 10) (k : Fin 4) : Result.Gives s.Aside (execSilenceExpiry a k s) := by
  unfold execSilenceExpiry
  split
  · next due =>
    refine gives_next (Aside.evaluate (Aside.noteWheels
      ⟨State.path_of_rest (s.expireAt_rest _) (by rw [s.expireAt_permit]), fun _ b => ?_⟩ s))
    rw [expiryDue_of_blocks b] at due
    cases due
  · exact gives_next (.refl s)

theorem aside_positionTimerExpiry (s : State) : Result.Gives s.Aside (execPositionTimerExpiry s) := by
  refine gives_next ⟨s.expireTimer_path, fun _ b => ?_⟩
  rw [State.expireTimer, State.timerDue, session_of_blocks b]
  exact b

end Sys2Proof

/-! ## Events of the receive path, the store and the load -/

namespace Sys2Proof
open Machine Safety
open Machine.Result (gives_next)
open Machine.State (Aside)

/-! ### The load's law by the store state -/

/-- A part that is LOADING: the blocks hold their defaults and the basis is STARTING (R114, R159). -/
structure Waits (s : State) : Prop where
  loading : s.loading = true
  basis : s.permit.basis = .starting
  blocks : s.blocks = State.reset

/-- A part whose load is complete. -/
structure Runs (s : State) : Prop where
  loading : s.loading = false
  basis : s.permit.basis = .evaluated

theorem Waits.loadingLaw {s : State} (w : Waits s) : LoadingLaw s where
  basis := ⟨fun _ => w.loading, fun _ => w.basis⟩
  queue _ := queue_of_blocks w.blocks
  axles _ := (congrArg State.axles w.blocks :)
  slots _ := (congrArg State.slots w.blocks :)
  protect _ := (congrArg State.protect w.blocks :)
  profiles _ := (congrArg State.profiles w.blocks :)
  config _ := (congrArg State.config w.blocks :)
  generation _ := (congrArg State.generation w.blocks :)
  wheels _ := (congrArg State.wheels w.blocks :)
  alerts _ := (congrArg State.alerts w.blocks :)
  session _ := session_of_blocks w.blocks
  staging _ := ⟨(congrArg (fun x : State => x.portA.staging) w.blocks :), (congrArg (fun x : State => x.portB.staging) w.blocks :)⟩

theorem Runs.loadingLaw {s : State} (r : Runs s) : LoadingLaw s := by
  obtain ⟨loading, basis⟩ := r
  constructor <;> simp [loading, basis]

theorem loadingLaw_of_runs {s : State} (loading : s.loading = false) (basis : s.permit.basis = .evaluated) : LoadingLaw s :=
  (Runs.mk loading basis).loadingLaw

theorem Safety.LoadingLaw.cases {s : State} (h : LoadingLaw s) : Waits s ∨ Runs s := by
  cases l : s.loading with
  | true =>
    refine .inl ⟨l, h.basis.2 l, ?_⟩
    unfold State.blocks
    rw [h.queue l, h.axles l, h.slots l, h.protect l, h.profiles l, h.config l, h.generation l, h.wheels l, h.alerts l,
      h.session l, (h.staging l).1, (h.staging l).2]
    rfl
  | false =>
    refine .inr ⟨l, ?_⟩
    cases b : s.permit.basis with
    | evaluated => rfl
    | starting => rw [h.basis.1 b] at l; cases l

theorem Safety.LoadingLaw.basis_evaluated {s : State} (h : LoadingLaw s) (loaded : s.loading = false) :
    s.permit.basis = .evaluated :=
  (h.cases.resolve_left fun w => by rw [w.loading] at loaded; cases loaded).basis

theorem Waits.aside {s t : State} (w : Waits s) (a : s.Aside t) : Waits t where
  loading := (State.loading_of_path a.path).trans w.loading
  basis := (congrArg (fun x => x.2.2.2.2.2.2) a.path).trans w.basis
  blocks := a.blocks w.loading w.blocks

/-- What the statement asks of the state after a step. -/
structure PathKept (s t : State) : Prop where
  receive : ReceiveLaw t
  loading : LoadingLaw t
  store : StoreLaw t
  writes : ∀ i, s.supply.state = .low → t.supply.state = .low → t.store.state = .writing i → s.store.state = .writing i

theorem PathKept.refl {s : State} (h : Lawful s) : PathKept s s := ⟨h.receive, h.loading, h.store, fun _ _ _ w => w⟩

/-- An event that goes on and leaves all of it keeps it. -/
theorem PathKept.aside {s t u : State} (k : PathKept s t) (a : t.Aside u) : PathKept s u := by
  have path := a.path
  simp only [State.path, Prod.mk.injEq] at path
  obtain ⟨rx0, rx1, queue, store, supply, nonvolatile, basis⟩ := path
  refine ⟨?_, ?_, ?_, ?_⟩
  · obtain ⟨law0, law1, bounded, ids, levels⟩ := k.receive
    exact ⟨rx0 ▸ law0, rx1 ▸ law1, queue ▸ bounded, queue ▸ ids, queue ▸ levels⟩
  · rcases k.loading.cases with w | r
    · exact (w.aside a).loadingLaw
    · exact (Runs.mk ((State.loading_of_path a.path).trans r.loading) (basis.trans r.basis)).loadingLaw
  · have law := k.store
    constructor
    · rw [store, supply]; exact law.pending
    · rw [store]; exact law.valid
    · rw [store, nonvolatile]; exact law.content
    · rw [supply]; exact law.recovery
  · rw [store, supply]
    exact k.writes

theorem Machine.Result.Gives.pathKept {s : State} {r : Result} (h : Lawful s) (g : Result.Gives s.Aside r) :
    Result.Gives (PathKept s) r := fun t e => (PathKept.refl h).aside (g t e)

theorem PathKept.setFlagBoth {s t : State} (k : PathKept s t) (e : EventFlag) : PathKept s (t.setFlagBoth e) :=
  k.aside (.of_eq rfl rfl)

/-! ### Reset -/

theorem pathKept_restart (s : State) : PathKept s s.restart where
  receive := ⟨Nat.zero_le _, Nat.zero_le _, Nat.zero_le _, nofun, nofun⟩
  loading := (Waits.mk rfl rfl rfl : Waits s.restart).loadingLaw
  store := ⟨nofun, ⟨nofun, nofun⟩, nofun, fun h => absurd rfl h⟩
  writes := nofun

/-! ### Receivers and queue -/

theorem last16_length (l : List Bool) : (last16 l).length ≤ 16 := by
  simp only [last16, List.length_drop]
  omega

theorem huntBits_length (bits : List Bool) {history : List Bool} (h : history.length ≤ 16) :
    (huntBits history bits).1.length ≤ 16 := by
  induction bits generalizing history with
  | nil => exact h
  | cons b rest ih =>
    unfold huntBits
    dsimp only
    split
    · exact last16_length _
    · exact ih (last16_length _)

/-- Fewer than 64 bits stay fewer until the 64th (R31). -/
theorem collectBits_length (bits : List Bool) {sofar c : List Bool} (h : sofar.length < telegramLength)
    (more : collectBits sofar bits = (c, false)) : c.length < telegramLength := by
  induction bits generalizing sofar with
  | nil =>
    cases more
    exact h
  | cons b rest ih =>
    unfold collectBits at more
    dsimp only at more
    split at more
    · cases more
    · next open_ =>
      refine ih ?_ more
      rw [List.length_append] at open_ ⊢
      exact Nat.lt_of_le_of_ne h open_

theorem Safety.ReceiverLaw.sync {r : Receiver} (h : ReceiverLaw r) (bits : List Bool) (level : Int) :
    ReceiverLaw (r.sync bits level) := by
  cases r with
  | collect rssi sofar => exact h
  | hunt history =>
    have short := huntBits_length bits h
    unfold Receiver.sync
    dsimp only
    split
    · exact ⟨Nat.zero_lt_succ _, clampInt_range (by decide) level⟩
    · next same => rw [same] at short; exact short

theorem Safety.ReceiveLaw.receiver {s : State} (h : ReceiveLaw s) (ch : Channel) : ReceiverLaw (s.receiver ch) := by
  cases ch
  · exact h.rx0
  · exact h.rx1

theorem pathKept_setReceiver {s : State} (h : Lawful s) (ch : Channel) {r : Receiver} (law : ReceiverLaw r) :
    PathKept s (s.setReceiver ch r) := by
  cases ch
  · exact ⟨{ h.receive with rx0 := law }, { h.loading with }, { h.store with }, fun _ _ _ w => w⟩
  · exact ⟨{ h.receive with rx1 := law }, { h.loading with }, { h.store with }, fun _ _ _ w => w⟩

/-- An offer of a telegram with a valid ID and a level in range, outside LOADING (R40 to R42). -/
theorem PathKept.offer {s t : State} (k : PathKept s t) (loaded : t.loading = false) {e : QueueEntry}
    (id : validId e.telegram.id = true) (level : RssiInRange e.rssi) : PathKept s (t.offer e) := by
  have basis := k.loading.basis_evaluated loaded
  unfold State.offer
  split
  · next room =>
    refine ⟨{ k.receive with bounded := ?_, ids := ?_, levels := ?_ }, loadingLaw_of_runs loaded basis,
      { k.store with }, k.writes⟩
    · rw [List.length_append]
      exact room
    · intro x hx
      rcases List.mem_append.1 hx with old | last
      · exact k.receive.ids x old
      · rw [List.mem_singleton.1 last]; exact id
    · intro x hx
      rcases List.mem_append.1 hx with old | last
      · exact k.receive.levels x old
      · rw [List.mem_singleton.1 last]; exact level
  · exact PathKept.setFlagBoth (t := { t with lostPending := true }) (k.aside (.of_eq rfl rfl)) .queueLost

theorem PathKept.completeTelegram {s t : State} (k : PathKept s t) (ch : Channel) {rssi : Int} (level : RssiInRange rssi)
    (bits : List Bool) : PathKept s (t.completeTelegram ch rssi bits) := by
  unfold State.completeTelegram
  split
  · next passes =>
    simp only [State.filterPasses, Bool.and_eq_true, Bool.not_eq_true'] at passes
    obtain ⟨_, ⟨loaded, id⟩, _⟩ := passes
    exact k.offer loaded id level
  · exact k

theorem pathKept_telegramCompletion {s : State} (h : Lawful s) (ch : Channel) (bits : List Bool) :
    Result.Gives (PathKept s) (execTelegramCompletion ch bits s) := by
  have law := h.receive.receiver ch
  unfold execTelegramCompletion
  split
  · exact gives_next (.refl h)
  · next rssi sofar collects =>
    rw [collects] at law
    obtain ⟨short, level⟩ := law
    split
    · exact gives_next ((pathKept_setReceiver h ch (Nat.zero_le _)).completeTelegram ch level _)
    · next more => exact gives_next (pathKept_setReceiver h ch ⟨collectBits_length bits short more, level⟩)

/-! ### The taking of an entry -/

theorem Machine.State.handOver_path (s : State) (e : QueueEntry) : (s.handOver e).path = s.path := by
  unfold State.handOver
  split
  · split
    · exact s.advance_path _ _
    · rfl
  · rfl

theorem Machine.State.takeEntry_path (s : State) (e : QueueEntry) : (s.takeEntry e).path = s.path := by
  have reset : (if e.lost then s.resetCounts else s).path = s.path := by split <;> rfl
  unfold State.takeEntry
  dsimp only
  generalize (if e.lost then s.resetCounts else s) = u at reset
  have read : ((u.readEntry e).handOver e).path = s.path := by
    rw [State.handOver_path, State.path_of_rest (u.readEntry_rest e) (by rw [u.readEntry_permit]), reset]
  split
  · rw [State.evaluate_path, State.noteWheels_path, read]
  · rw [State.noteWheels_path, read]

/-- A part that is LOADING has no entry to take. -/
theorem pathKept_entryTaken {s : State} (h : Lawful s) : Result.Gives (PathKept s) (execEntryTaken s) := by
  unfold execEntryTaken
  split
  · exact gives_next (.refl h)
  · next e rest hq =>
    have runs : Runs s := h.loading.cases.resolve_left fun w => by simp [queue_of_blocks w.blocks] at hq
    have loaded := runs.loading
    have law := h.receive
    have head : PathKept s { s with queue := rest } := by
      refine ⟨{ law with bounded := ?_, ids := fun x hx => law.ids x ?_, levels := fun x hx => law.levels x ?_ },
        loadingLaw_of_runs runs.loading runs.basis, { h.store with }, fun _ _ _ w => w⟩
      · exact Nat.le_trans (by rw [hq]; exact Nat.le_succ _) law.bounded
      · rw [hq]; exact List.mem_cons_of_mem _ hx
      · rw [hq]; exact List.mem_cons_of_mem _ hx
    refine gives_next (head.aside ⟨State.takeEntry_path _ e, fun l _ => ?_⟩)
    rw [show s.loading = true from l] at loaded
    cases loaded

/-! ### Store and load -/

/-- A write that begins outside LOADING with supply NORMAL (R162). -/
theorem pathKept_writing {s : State} (h : Lawful s) (loaded : s.loading = false) {x : Supply} (normal : x.state = .normal)
    (recovery : x.recovery = 0) (i : Image) : PathKept s { s with supply := x, store := { s.store with state := .writing i } } where
  receive := { h.receive with }
  loading := loadingLaw_of_runs rfl (h.loading.basis_evaluated loaded)
  store := ⟨nofun, h.store.valid, h.store.content, fun r => absurd recovery r⟩
  writes _ _ low _ := by rw [show x.state = .low from low] at normal; cases normal

theorem recovery_of_normal {s : State} (h : StoreLaw s) (normal : s.supply.state = .normal) : s.supply.recovery = 0 := by
  by_contra r
  rw [h.recovery r] at normal
  cases normal

/-- A write waits only while supply is LOW, so WRITE_BEGIN finds none to begin. -/
theorem pathKept_writeBegin {s : State} (h : Lawful s) : Result.Gives (PathKept s) (execWriteBegin s) := by
  unfold execWriteBegin
  split
  · next pending normal =>
    rw [h.store.pending pending] at normal
    cases normal
  · exact gives_next (.refl h)

theorem pathKept_writeCompletion {s : State} (h : Lawful s) (ok : Bool) :
    Result.Gives (PathKept s) (execWriteCompletion ok s) := by
  unfold execWriteCompletion
  split
  · next snapshot writing =>
    have loaded : s.loading = false := by simp [State.loading, writing]
    have basis := h.loading.basis_evaluated loaded
    refine gives_next (PathKept.setFlagBoth ?_ .store)
    split
    · exact ⟨{ h.receive with }, loadingLaw_of_runs rfl basis,
        ⟨nofun, ⟨fun _ => rfl, fun _ => rfl⟩, fun g hg => ⟨snapshot, if_pos rfl, Option.some.inj hg⟩, h.store.recovery⟩, nofun⟩
    · exact ⟨{ h.receive with }, loadingLaw_of_runs rfl basis,
        ⟨nofun, ⟨nofun, nofun⟩, nofun, h.store.recovery⟩, nofun⟩
  · exact gives_next (.refl h)

theorem pathKept_storeCommit {s : State} (h : Lawful s) (q : PortId) : Result.Gives (PathKept s) (execStoreCommit q s) := by
  have port {t : State} (k : PathKept s t) (x : Port) (hx : x.staging = (t.port q).staging) : PathKept s (t.setPort q x) :=
    k.aside (.of_eq (t.setPort_path q x) (t.setPort_blocks q x hx))
  refine gives_next (State.transact_cases _ ?_ (port (.refl h) _ rfl))
  split
  · next idle normal =>
    exact port (pathKept_writing h (by simp [State.loading, idle]) normal (recovery_of_normal h.store normal) _) _ rfl
  · next idle low =>
    have loaded : s.loading = false := by simp [State.loading, idle]
    have basis := h.loading.basis_evaluated loaded
    have waiting : PathKept s { s with store := { s.store with state := .pending } } :=
      ⟨{ h.receive with }, loadingLaw_of_runs rfl basis, ⟨fun _ => low, h.store.valid, h.store.content, h.store.recovery⟩, nofun⟩
    exact port waiting _ rfl
  · exact port (.refl h) _ rfl

/-- The store controller after the load (R160). -/
theorem Machine.State.loaded_store (s : State) :
    (∃ i, s.nonvolatile.validImage = some i
      ∧ s.loaded.store = { s.store with state := .idle, storedGeneration := some i.generation, imageValid := true })
    ∨ s.loaded.store = { s.store with state := .idle, storedGeneration := none, imageValid := false } := by
  cases hi : s.nonvolatile.validImage with
  | some i => exact .inl ⟨i, rfl, by rw [State.loaded_image hi]; rfl⟩
  | none => exact .inr (by rw [State.loaded_defaults hi]; rfl)

theorem pathKept_completeLoad {s : State} (h : Lawful s) : PathKept s s.completeLoad := by
  have frame := s.completeLoad_judges.judgedFrom
  have fields := s.loaded_eq
  have rx0 : s.completeLoad.rx0 = s.rx0 := frame.rx0.trans (congrArg State.rx0 fields :)
  have rx1 : s.completeLoad.rx1 = s.rx1 := frame.rx1.trans (congrArg State.rx1 fields :)
  have queue : s.completeLoad.queue = s.queue := frame.queue.trans (congrArg State.queue fields :)
  have supply : s.completeLoad.supply = s.supply := frame.supply.trans (congrArg State.supply fields :)
  have nonvolatile : s.completeLoad.nonvolatile = s.nonvolatile := frame.nonvolatile.trans (congrArg State.nonvolatile fields :)
  have store : s.completeLoad.store = s.loaded.store := frame.store
  have idle : s.completeLoad.store.state = .idle := by
    rw [store]
    rcases s.loaded_store with ⟨i, _, e⟩ | e <;> rw [e]
  obtain ⟨law0, law1, bounded, ids, levels⟩ := h.receive
  refine ⟨⟨rx0 ▸ law0, rx1 ▸ law1, queue ▸ bounded, queue ▸ ids, queue ▸ levels⟩, ?_, ⟨?_, ?_, ?_, ?_⟩, ?_⟩
  · exact (Runs.mk (by simp [State.loading, idle]) s.completeLoad_permit.1).loadingLaw
  · rw [idle]; nofun
  · rw [store]
    rcases s.loaded_store with ⟨i, _, e⟩ | e <;> simp [e]
  · rw [store, nonvolatile]
    rcases s.loaded_store with ⟨i, hi, e⟩ | e
    · rw [e]
      exact fun g hg => ⟨i, hi, Option.some.inj hg⟩
    · rw [e]; nofun
  · rw [supply]; exact h.store.recovery
  · rw [idle]; nofun

theorem pathKept_loadCompletion {s : State} (h : Lawful s) : Result.Gives (PathKept s) (execLoadCompletion s) := by
  unfold execLoadCompletion
  split
  · exact gives_next (pathKept_completeLoad h)
  · exact gives_next (.refl h)

/-! ### Supply watch -/

/-- A supply watch written so that a waiting write stays one under LOW. -/
theorem pathKept_supply {s : State} (h : Lawful s) {x : Supply} (pending : s.store.state = .pending → x.state = .low)
    (recovery : x.recovery ≠ 0 → x.state = .low) : PathKept s { s with supply := x } :=
  ⟨{ h.receive with }, { h.loading with }, ⟨pending, h.store.valid, h.store.content, recovery⟩, fun _ _ _ w => w⟩

/-- EMPTY records have no silence reference to move (R95). -/
theorem moveSilenceRefs_of_blocks {s : State} (b : s.blocks = State.reset) : s.moveSilenceRefs.blocks = State.reset := by
  have wheels : s.moveSilenceRefs.wheels = s.wheels := wheels_ext fun p => by
    show s.moveSilenceRefs.wheel p = s.wheel p
    have moved : s.moveSilenceRefs.wheel p
        = if (s.wheel p).state.expires then { s.wheel p with silenceRef := some s.uptime } else s.wheel p :=
      State.tabulate_wheel s _ p
    rw [moved, wheel_of_blocks b]
    rfl
  rw [← b]
  unfold State.blocks
  rw [wheels]
  rfl

theorem aside_moveSilenceRefs (s : State) : s.Aside s.moveSilenceRefs := ⟨rfl, fun _ b => moveSilenceRefs_of_blocks b⟩

theorem aside_moveTimerStart (s : State) : s.Aside s.moveTimerStart := by
  refine ⟨?_, fun _ b => ?_⟩
  · unfold State.moveTimerStart
    split <;> rfl
  · rw [State.moveTimerStart, session_of_blocks b]
    exact b

/-- The change to NORMAL: a waiting write begins, so that none is left waiting (R155, R162). -/
theorem pathKept_supplyToNormal {s : State} (h : Lawful s) (x : Supply) :
    PathKept s ((State.supplyToNormal { s with supply := x })) := by
  refine PathKept.setFlagBoth ?_ .supply
  have moved := (aside_moveSilenceRefs { s with supply := { x with state := .normal, recovery := 0 } }).trans
    (aside_moveTimerStart _)
  generalize State.moveTimerStart _ = u at moved ⊢
  have store : u.store = s.store := congrArg (fun x => x.2.2.2.1) moved.path
  unfold State.beginPendingWrite
  split
  · next pending =>
    rw [store] at pending
    have path := moved.path
    simp only [State.path, Prod.mk.injEq] at path
    obtain ⟨rx0, rx1, queue, _, supply, nonvolatile, basis⟩ := path
    refine (pathKept_writing (x := { x with state := .normal, recovery := 0 }) h (by simp [State.loading, pending]) rfl rfl
      u.workingImage).aside ⟨?_, fun l => by cases l⟩
    simp only [State.path, State.beginWrite, rx0, rx1, queue, store, supply, nonvolatile, basis]
  · next quiet =>
    refine (pathKept_supply h (fun pending => ?_) fun r => absurd rfl r).aside moved
    rw [store] at quiet
    exact absurd pending quiet

theorem pathKept_vsenseSample {s : State} (h : Lawful s) (level : Int) : Result.Gives (PathKept s) (execVsenseSample level s) := by
  unfold execVsenseSample
  split
  · refine gives_next ?_
    have law := h.store
    unfold State.judgeSample
    dsimp only
    split
    · next normal =>
      split
      · exact (pathKept_supply h (x := ⟨.low, 0, _⟩) (fun _ => rfl) fun _ => rfl).setFlagBoth .supply
      · exact pathKept_supply h law.pending law.recovery
    · next low =>
      split
      · split
        · exact pathKept_supply h law.pending fun _ => low
        · exact pathKept_supplyToNormal h _
      · exact pathKept_supply h law.pending fun _ => low
  · exact gives_next (.refl h)

/-! ### Every command -/

theorem pathKept_exec {s : State} (h : Lawful s) (c : Instr) : Result.Gives (PathKept s) (exec c s) := by
  cases c with
  | powerUp => exact gives_next (pathKept_restart s)
  | resetN => exact gives_next (pathKept_restart s)
  | powerLoss => exact gives_next (pathKept_restart s)
  | uptimeTick => exact gives_next ((PathKept.refl h).aside (.of_eq rfl rfl))
  | loadCompletion => exact pathKept_loadCompletion h
  | vsenseSample level => exact pathKept_vsenseSample h level
  | syncDetected ch bits level => exact gives_next (pathKept_setReceiver h ch ((h.receive.receiver ch).sync bits level))
  | lineCodingViolation ch => exact gives_next (pathKept_setReceiver h ch (Nat.zero_le _))
  | telegramCompletion ch bits => exact pathKept_telegramCompletion h ch bits
  | entryTaken => exact pathKept_entryTaken h
  | writeBegin => exact pathKept_writeBegin h
  | writeCompletion ok => exact pathKept_writeCompletion h ok
  | storeCommit q => exact pathKept_storeCommit h q
  | silenceExpiry a k => exact (aside_silenceExpiry s a k).pathKept h
  | positionTimerExpiry => exact (aside_positionTimerExpiry s).pathKept h
  | malformedCommandFrame q sdi => exact (aside_malformedCommandFrame s q sdi).pathKept h
  | nop q => exact (aside_reply s q _).pathKept h
  | readId q => exact (aside_reply s q _).pathKept h
  | getEvents q => exact (aside_portWrite s q (fun s => { s.port q with flags := 0 }) _ rfl).pathKept h
  | setEventMask q m => exact (aside_portWrite s q (fun s => { s.port q with mask := m.setWidth 11 }) _ rfl).pathKept h
  | portReset q => exact (aside_portReset s q).pathKept h
  | readWheels q a b c d => exact (aside_readWheels s q a b c d).pathKept h
  | readAxles q a n => exact (aside_checkedRead s q _ _).pathKept h
  | readAlerts q n => exact (aside_checkedRead s q _ _).pathKept h
  | ackAlert q a b c => exact (aside_ackAlert s q a b c).pathKept h
  | readPermit q => exact (aside_read s q _).pathKept h
  | setVehicleLoad q v => exact (aside_setVehicleLoad s q v).pathKept h
  | setVehicleBody q v => exact (aside_setVehicleBody s q v).pathKept h
  | setVehicleTrailer q v => exact (aside_setVehicleTrailer s q v).pathKept h
  | setVehicleMotion q v => exact (aside_setVehicleMotion s q v).pathKept h
  | setVehicleLiftedSet q v => exact (aside_setVehicleLiftedSet s q v).pathKept h
  | setVehicleAmbient q v => exact (aside_setVehicleAmbient s q v).pathKept h
  | readVehicle q => exact (aside_reply s q _).pathKept h
  | setConfig q i v => exact (aside_setConfig s q i v).pathKept h
  | readConfig q => exact (aside_read s q _).pathKept h
  | mapAssign q g a k id => exact (aside_mapAssign s q g a k id).pathKept h
  | mapRemove q g a k => exact (aside_mapRemove s q g a k).pathKept h
  | mapSetAxle q g a b c d e f l => exact (aside_mapSetAxle s q g a b c d e f l).pathKept h
  | mapMove q g a b c d e f n => exact (aside_mapMove s q g a b c d e f n).pathKept h
  | mapProtect q g a b c => exact (aside_mapProtect s q g a b c).pathKept h
  | profileSelect q n f => exact (aside_profileSelect s q n f).pathKept h
  | profileWrite q v => exact (aside_profileWrite s q v).pathKept h
  | profileRead q n => exact (aside_profileRead s q n).pathKept h
  | learnStart q g a b => exact (aside_learnStart s q g a b).pathKept h
  | learnSkip q => exact (aside_learnSkip s q).pathKept h
  | learnFinish q => exact (aside_learnFinish s q).pathKept h
  | learnAbort q => exact (aside_learnAbort s q).pathKept h
  | learnStatus q => exact (aside_read s q _).pathKept h
  | storeStatus q => exact (aside_reply s q _).pathKept h

theorem pathKept_step {s t : State} (h : Lawful s) (e : step s = .next t) : PathKept s t := by
  unfold step at e
  split at e
  · cases e
    exact .refl h
  · have k := pathKept_exec (lawful_withPending h _) _ t e
    exact ⟨k.receive, k.loading, k.store, k.writes⟩

/-- Settles O56: most commands leave receivers, queue, store and load aside (`State.Aside`); the others are taken one by
one. -/
theorem stepKeepsTheReceivePathLoadAndStore : Obligations.StepKeepsTheReceivePathLoadAndStore := by
  unfold Obligations.StepKeepsTheReceivePathLoadAndStore
  intro s t h e
  have k := pathKept_step h e
  exact ⟨k.receive, k.loading, k.store, k.writes⟩

end Sys2Proof

/-! ## The search for the sync word -/

namespace Sys2Proof
open Machine Safety

theorem last16_eq (l : List Bool) : last16 l = Claims.lastSixteen l := rfl

theorem syncWord_eq : syncWord = Claims.sync := by decide

theorem reverse_last16 (l : List Bool) : (last16 l).reverse = l.reverse.take 16 := by
  rw [last16, List.reverse_drop]
  rcases Nat.le_total l.length 16 with short | long
  · rw [List.take_of_length_le (by simp; omega), List.take_of_length_le (by simpa using short)]
  · congr 1
    omega

/-- Only the last 16 bits of a history matter to what its last 16 bits become (log entry 4). -/
theorem last16_append (l m : List Bool) : last16 (last16 l ++ m) = last16 (l ++ m) := by
  apply List.reverse_injective
  simp only [reverse_last16, List.reverse_append, List.take_append, List.take_take]
  congr 2
  omega

/-- The search reaches the bit b when no bit before it completed the sync word (R31). -/
theorem huntBits_reaches (xs : List Bool) (b : Bool) (beyond : List Bool) {history : List Bool}
    (quiet : ∀ k, 0 < k → k ≤ xs.length → last16 (history ++ xs.take k) ≠ syncWord) :
    huntBits history (xs ++ b :: beyond) = if last16 (history ++ (xs ++ [b])) = syncWord
      then (last16 (history ++ (xs ++ [b])), true) else huntBits (last16 (history ++ (xs ++ [b]))) beyond := by
  induction xs generalizing history with
  | nil => rfl
  | cons x xs ih =>
    have first : last16 (history ++ [x]) ≠ syncWord := quiet 1 Nat.one_pos (Nat.succ_le_succ (Nat.zero_le _))
    have moves (m : List Bool) : last16 (last16 (history ++ [x]) ++ m) = last16 (history ++ (x :: m)) := by
      rw [last16_append, List.append_assoc]
      rfl
    have rest := ih (history := last16 (history ++ [x])) fun k pos hk => by
      rw [moves]
      exact quiet (k + 1) (Nat.succ_pos k) (Nat.succ_le_succ hk)
    rw [moves] at rest
    calc huntBits history (x :: (xs ++ b :: beyond))
        = huntBits (last16 (history ++ [x])) (xs ++ b :: beyond) := if_neg first
      _ = _ := rest

/-- Bits in HUNT none of which but the last may complete the sync word. -/
theorem huntBits_last {bits : List Bool} (some : bits ≠ []) (beyond : List Bool) {history : List Bool}
    (quiet : ∀ k, 0 < k → k < bits.length → last16 (history ++ bits.take k) ≠ syncWord) :
    huntBits history (bits ++ beyond) = if last16 (history ++ bits) = syncWord
      then (last16 (history ++ bits), true) else huntBits (last16 (history ++ bits)) beyond := by
  obtain ⟨xs, b, rfl⟩ := (List.eq_nil_or_concat' bits).resolve_left some
  rw [List.append_assoc]
  refine huntBits_reaches xs b beyond fun k pos hk => ?_
  have early := quiet k pos (by rw [List.length_append]; exact Nat.lt_succ_of_le hk)
  rwa [List.take_append_of_le_length hk] at early

theorem clampRssi_eq (level : Int) : clampRssi level = Claims.nearest (-120) (-20) level :=
  clampInt_eq_nearest (by decide) level

theorem Machine.State.setReceiver_self {s : State} {ch : Channel} {r : Receiver} (h : s.receiver ch = r) :
    s.setReceiver ch r = s := by
  subst h
  cases ch <;> rfl

/-- SYNC_DETECTED at a receiver in HUNT whose bits complete the sync word (R31). -/
theorem exec_syncDetected_found {s : State} {ch : Channel} {history bits u : List Bool} (h : s.receiver ch = .hunt history)
    (search : huntBits history bits = (u, true)) (level : Int) :
    exec (.syncDetected ch bits level) s = .next (s.setReceiver ch (.collect (clampRssi level) [])) := by
  show Host.Outcome.next (s.setReceiver ch ((s.receiver ch).sync bits level)) = _
  rw [h, Receiver.sync]
  simp only [search]

theorem exec_syncDetected_missed {s : State} {ch : Channel} {history bits u : List Bool} (h : s.receiver ch = .hunt history)
    (search : huntBits history bits = (u, false)) (level : Int) :
    exec (.syncDetected ch bits level) s = .next (s.setReceiver ch (.hunt u)) := by
  show Host.Outcome.next (s.setReceiver ch ((s.receiver ch).sync bits level)) = _
  rw [h, Receiver.sync]
  simp only [search]

/-- Settles O16: `huntBits_last` at the last of the bits. -/
theorem receiverFindsTheSyncWord : Obligations.ReceiverFindsTheSyncWord := by
  unfold Obligations.ReceiverFindsTheSyncWord
  intro s ch bits beyond level
  simp only [← syncWord_eq, ← last16_eq, ← clampRssi_eq]
  refine ⟨rfl, fun rssi sofar h => ?_, fun history h => ⟨?_, fun some quiet => ⟨fun found => ?_, fun missed => ?_⟩⟩⟩
  · show Host.Outcome.next (s.setReceiver ch ((s.receiver ch).sync bits level)) = _
    rw [h]
    exact congrArg _ (State.setReceiver_self h)
  · rw [exec_syncDetected_missed h rfl, State.setReceiver_self h]
  · exact exec_syncDetected_found h ((huntBits_last some beyond quiet).trans (if_pos found)) level
  · have search := (huntBits_last some [] quiet).trans (if_neg missed)
    rw [List.append_nil] at search
    exact exec_syncDetected_missed h search level

end Sys2Proof

/-! ## The telegram's layout and its check byte -/

namespace Sys2Proof
open Machine Safety

/-! ### Fields among bits -/

theorem length_msbBits {w : Nat} (x : BitVec w) : (msbBits x).length = w := List.length_ofFn

/-- Bits spell what the bits before the last do, doubled, and the last. -/
theorem bitsToNat_append (l : List Bool) (b : Bool) : bitsToNat (l ++ [b]) = 2 * bitsToNat l + b.toNat := by
  simp [bitsToNat]

theorem msbBits_append {v w : Nat} (x : BitVec v) (y : BitVec w) : msbBits (x ++ y) = msbBits x ++ msbBits y := by
  refine List.ext_getElem (by simp [length_msbBits]) fun i hi _ => ?_
  rw [List.getElem_append]
  by_cases h : i < v <;> simp [msbBits, BitVec.getMsbD_append, h]

/-- The bits of a word are those above the last, and the last. -/
theorem msbBits_succ {w : Nat} (x : BitVec (w + 1)) : msbBits x = msbBits (x.extractLsb' 1 w) ++ [x.getLsbD 0] := by
  have split : x = x.extractLsb' 1 w ++ x.extractLsb' 0 1 := by
    apply BitVec.eq_of_getLsbD_eq
    intro i hi
    cases i <;> simp
  have last : msbBits (x.extractLsb' 0 1) = [x.getLsbD 0] := by simp [msbBits, BitVec.getMsbD]
  rw [← last, ← msbBits_append, ← split]

theorem bitsToNat_msbBits {w : Nat} (x : BitVec w) : bitsToNat (msbBits x) = x.toNat := by
  induction w with
  | zero => rw [BitVec.eq_nil x]; rfl
  | succ w ih =>
    have upper : x.toNat / 2 < 2 ^ w := by have := x.isLt; omega
    have last : (x.getLsbD 0).toNat = x.toNat % 2 := by
      rw [BitVec.getLsbD, Nat.testBit_zero]
      rcases Nat.mod_two_eq_zero_or_one x.toNat with h | h <;> rw [h] <;> rfl
    rw [msbBits_succ, bitsToNat_append, ih, last, BitVec.extractLsb'_toNat, Nat.shiftRight_eq_div_pow, pow_one,
      Nat.mod_eq_of_lt upper]
    exact Nat.div_add_mod x.toNat 2

/-- The field at the front of a bit sequence. -/
theorem bitField_front {w : Nat} (x : BitVec w) (rest : List Bool) : bitField (msbBits x ++ rest) 0 w = x.toNat := by
  rw [bitField, List.drop_zero, List.take_left' (length_msbBits x), bitsToNat_msbBits]

/-- A field that begins behind the one at the front. -/
theorem bitField_behind {w start : Nat} (x : BitVec w) (h : w ≤ start) (rest : List Bool) (len : Nat) :
    bitField (msbBits x ++ rest) start len = bitField rest (start - w) len := by
  rw [bitField, List.drop_append, length_msbBits, List.drop_of_length_le (by rwa [length_msbBits]), List.nil_append, bitField]

/-- The bits of bytes as the statements write them. -/
theorem bits_eq (bytes : List Byte) : Claims.bits bytes = bytes.flatMap msbBits := by
  unfold Claims.bits
  congr 1


/-! ### The check byte (R32) -/

theorem crc8Step_eq : crc8Step = Claims.crc8Bit := by
  funext reg bit
  unfold crc8Step Claims.crc8Bit
  rw [BitVec.msb_eq_getLsbD_last]
  by_cases h : bit = reg.getLsbD 7 <;> simp [h]

theorem crc8_bits (bytes : List Byte) : crc8 (Claims.bits bytes) = Claims.crc8 bytes := by
  rw [crc8, crc8Step_eq, Claims.crc8]

theorem crcGood_iff {data : List Bool} (h : data.length = 56) (check : Byte) :
    crcGood (data ++ msbBits check) = true ↔ check = crc8 data := by
  have field : bitField (data ++ msbBits check) 56 8 = check.toNat := by
    rw [bitField, List.drop_left' h, List.take_of_length_le (length_msbBits check).le, bitsToNat_msbBits]
  rw [crcGood, field, List.take_left' h, beq_iff_eq, BitVec.toNat_inj]

/-! ### The fields (R179) -/

theorem length_telegramBits (t : Telegram) : (telegramBits t).length = 56 := by
  simp [telegramBits, length_msbBits]

theorem telegramKindOf_code (k : TelegramKind) : telegramKindOf k.code.toNat = k := by cases k <;> rfl

/-- Reading the fields where they are written, whatever the check byte. -/
theorem decodeTelegram_telegramBits (t : Telegram) (check : List Bool) : decodeTelegram (telegramBits t ++ check) = t := by
  have battery : [t.batteryLow] = msbBits (BitVec.ofBool t.batteryLow) := by cases t.batteryLow <;> rfl
  have bits : telegramBits t ++ check = msbBits t.id ++ (msbBits t.kind.code ++ (msbBits t.sequence
      ++ (msbBits (BitVec.ofBool t.batteryLow) ++ (msbBits t.pressureCode ++ (msbBits t.tempCode ++ check))))) := by
    simp only [telegramBits, battery, List.append_assoc]
  rw [bits]
  simp [decodeTelegram, bitField_front, bitField_behind, telegramKindOf_code]

/-! ### The fields in their bytes -/

theorem code_telegramKindOf (x : BitVec 2) : (telegramKindOf x.toNat).code = x := by
  revert x
  decide

theorem kind_telegramOf (b0 b1 b2 b3 b4 b5 b6 : Byte) :
    (Claims.telegramOf b0 b1 b2 b3 b4 b5 b6).kind = telegramKindOf (b4.extractLsb' 6 2).toNat := rfl

/-- Byte 4 holds the kind, the sequence, the battery bit and the highest bit of the pressure code. -/
theorem msbBits_byte4 (b : Byte) : msbBits b = msbBits (b.extractLsb' 6 2) ++ msbBits (b.extractLsb' 2 4) ++ [b.getLsbD 1]
    ++ msbBits (b.extractLsb' 0 1) := by
  simp [msbBits, List.ofFn_succ, BitVec.getMsbD]

theorem telegramBits_telegramOf (b0 b1 b2 b3 b4 b5 b6 : Byte) :
    telegramBits (Claims.telegramOf b0 b1 b2 b3 b4 b5 b6) = Claims.bits [b0, b1, b2, b3, b4, b5, b6] := by
  rw [telegramBits, kind_telegramOf, code_telegramKindOf, bits_eq]
  simp only [Claims.telegramOf, msbBits_append, List.flatMap_cons, List.flatMap_nil, List.append_nil, List.append_assoc,
    msbBits_byte4 b4]

theorem exists_telegramOf (t : Telegram) : ∃ b0 b1 b2 b3 b4 b5 b6 : Byte, Claims.telegramOf b0 b1 b2 b3 b4 b5 b6 = t := by
  obtain ⟨id, kind, sequence, batteryLow, pressureCode, tempCode⟩ := t
  let b4 : Byte := kind.code ++ (sequence ++ (BitVec.ofBool batteryLow ++ pressureCode.extractLsb' 8 1))
  have kindBits : b4.extractLsb' 6 2 = kind.code := BitVec.extractLsb'_append_eq_left
  have sequenceBits : b4.extractLsb' 2 4 = sequence :=
    (BitVec.extractLsb'_append_eq_of_add_le (by decide)).trans BitVec.extractLsb'_append_eq_left
  have batteryBit : b4.getLsbD 1 = batteryLow := by
    rw [show b4 = kind.code ++ (sequence ++ (BitVec.ofBool batteryLow ++ pressureCode.extractLsb' 8 1)) from rfl]
    rw [BitVec.getLsbD_append, BitVec.getLsbD_append, BitVec.getLsbD_append]
    simp
  have pressureBit : b4.extractLsb' 0 1 = pressureCode.extractLsb' 8 1 :=
    ((BitVec.extractLsb'_append_eq_of_add_le (by decide)).trans (BitVec.extractLsb'_append_eq_of_add_le (by decide))).trans
      BitVec.extractLsb'_append_eq_right
  refine ⟨id.extractLsb' 24 8, id.extractLsb' 16 8, id.extractLsb' 8 8, id.extractLsb' 0 8, b4,
    pressureCode.extractLsb' 0 8, tempCode, ?_⟩
  rw [Telegram.mk.injEq]
  refine ⟨?_, ?_, sequenceBits, batteryBit, ?_, rfl⟩
  · show id.extractLsb' 24 8 ++ id.extractLsb' 16 8 ++ id.extractLsb' 8 8 ++ id.extractLsb' 0 8 = id
    rw [BitVec.extractLsb'_append_extractLsb'_eq_extractLsb' (show 24 = 16 + 8 from rfl),
      BitVec.extractLsb'_append_extractLsb'_eq_extractLsb' (show 16 = 8 + 8 from rfl),
      BitVec.extractLsb'_append_extractLsb'_eq_extractLsb' (show 8 = 0 + 8 from rfl)]
    exact BitVec.extractLsb'_eq_self
  · rw [kind_telegramOf, kindBits]
    exact telegramKindOf_code kind
  · show b4.extractLsb' 0 1 ++ pressureCode.extractLsb' 0 8 = pressureCode
    rw [pressureBit, BitVec.extractLsb'_append_extractLsb'_eq_extractLsb' (show 8 = 0 + 8 from rfl)]
    exact BitVec.extractLsb'_eq_self

/-- Eight bytes are the bits of a telegram and a check byte. -/
theorem bits_eight (b0 b1 b2 b3 b4 b5 b6 b7 : Byte) : Claims.bits [b0, b1, b2, b3, b4, b5, b6, b7]
    = telegramBits (Claims.telegramOf b0 b1 b2 b3 b4 b5 b6) ++ msbBits b7 := by
  rw [telegramBits_telegramOf, bits_eq, bits_eq]
  simp

theorem decodeTelegram_bits (b0 b1 b2 b3 b4 b5 b6 b7 : Byte) :
    decodeTelegram (Claims.bits [b0, b1, b2, b3, b4, b5, b6, b7]) = Claims.telegramOf b0 b1 b2 b3 b4 b5 b6 := by
  rw [bits_eight, decodeTelegram_telegramBits]

theorem crcGood_bits (b0 b1 b2 b3 b4 b5 b6 b7 : Byte) :
    crcGood (Claims.bits [b0, b1, b2, b3, b4, b5, b6, b7]) = true ↔ b7 = Claims.crc8 [b0, b1, b2, b3, b4, b5, b6] := by
  rw [bits_eight, crcGood_iff (length_telegramBits _), telegramBits_telegramOf, crc8_bits]

/-- Settles O18: eight bytes are a telegram's bits and its check byte, and every telegram is that of seven bytes. -/
theorem telegramRoundTrip : Obligations.TelegramRoundTrip := by
  unfold Obligations.TelegramRoundTrip
  refine ⟨fun b0 b1 b2 b3 b4 b5 b6 b7 => ⟨decodeTelegram_bits .., crcGood_bits ..⟩, fun t => ⟨?_, ?_, ?_, ?_⟩⟩
  · rw [encodeTelegram, List.length_append, length_telegramBits, length_msbBits]
  · exact (crcGood_iff (length_telegramBits t) _).2 rfl
  · exact decodeTelegram_telegramBits t _
  · obtain ⟨b0, b1, b2, b3, b4, b5, b6, rfl⟩ := exists_telegramOf t
    refine ⟨b0, b1, b2, b3, b4, b5, b6, rfl, ?_⟩
    rw [bits_eight, encodeTelegram, telegramBits_telegramOf, crc8_bits]

end Sys2Proof

/-! ## A completed telegram: check, supply, filter and queue -/

namespace Sys2Proof
open Machine Safety

/-! ### Bits collected (R31) -/

theorem collectBits_open (bits : List Bool) {sofar : List Bool} (h : sofar.length + bits.length < telegramLength) :
    collectBits sofar bits = (sofar ++ bits, false) := by
  induction bits generalizing sofar with
  | nil => rw [List.append_nil]; rfl
  | cons b rest ih =>
    rw [List.length_cons] at h
    have early : (sofar ++ [b]).length ≠ telegramLength := by rw [List.length_append, List.length_singleton]; omega
    have more : (sofar ++ [b]).length + rest.length < telegramLength := by
      rw [List.length_append, List.length_singleton]; omega
    rw [collectBits, if_neg early, ih more, List.append_assoc]
    rfl

/-- The collection ends at the 64th bit, whatever is recovered behind it. -/
theorem collectBits_full {bits : List Bool} (some : bits ≠ []) (beyond : List Bool) {sofar : List Bool}
    (h : (sofar ++ bits).length = telegramLength) : collectBits sofar (bits ++ beyond) = (sofar ++ bits, true) := by
  induction bits generalizing sofar with
  | nil => exact absurd rfl some
  | cons b rest ih =>
    rw [List.append_cons] at h ⊢
    rw [List.cons_append, collectBits]
    by_cases last : rest = []
    · subst last
      rw [List.append_nil] at h ⊢
      exact if_pos h
    · have early : (sofar ++ [b]).length ≠ telegramLength := by
        have := List.length_pos_iff.2 last
        rw [List.length_append] at h
        omega
      rw [if_neg early]
      exact ih last h

theorem exec_telegramCompletion_open {s : State} {ch : Channel} {rssi : Int} {sofar bits : List Bool}
    (h : s.receiver ch = .collect rssi sofar) (short : sofar.length + bits.length < telegramLength) :
    exec (.telegramCompletion ch bits) s = .next (s.setReceiver ch (.collect rssi (sofar ++ bits))) := by
  show execTelegramCompletion ch bits s = _
  unfold execTelegramCompletion
  simp only [h, collectBits_open bits short]

theorem exec_telegramCompletion_full {s : State} {ch : Channel} {rssi : Int} {sofar bits : List Bool}
    (h : s.receiver ch = .collect rssi sofar) (some : bits ≠ []) (full : (sofar ++ bits).length = telegramLength)
    (beyond : List Bool) : exec (.telegramCompletion ch (bits ++ beyond)) s
      = .next ((s.setReceiver ch (.hunt [])).completeTelegram ch rssi (sofar ++ bits)) := by
  show execTelegramCompletion ch (bits ++ beyond) s = _
  unfold execTelegramCompletion
  simp only [h, collectBits_full some beyond full]

/-! ### The filter (R36, R37) -/

theorem matchesPattern_iff (c : ConfigItems) (id : SensorId) : c.matchesPattern id = true
    ↔ ∀ i, i < 32 → c.mask.getLsbD i = false → id.getLsbD i = c.pattern.getLsbD i := by
  have bit (i : Nat) (hi : i < 32) : ((id ^^^ c.pattern) &&& ~~~c.mask).getLsbD i
      = ((id.getLsbD i ^^ c.pattern.getLsbD i) && !c.mask.getLsbD i) := by
    rw [BitVec.getLsbD_and, BitVec.getLsbD_xor, BitVec.getLsbD_not, decide_eq_true hi, Bool.true_and]
  have zero (i : Nat) : (0 : SensorId).getLsbD i = false := BitVec.getLsbD_zero
  rw [ConfigItems.matchesPattern, beq_iff_eq]
  constructor
  · intro h i hi free
    have differ := bit i hi
    rw [h, zero, free, Bool.not_false, Bool.and_true] at differ
    exact bne_eq_false_iff_eq.1 differ.symm
  · intro h
    refine BitVec.eq_of_getLsbD_eq fun i hi => ?_
    rw [bit i hi, zero]
    cases free : c.mask.getLsbD i
    · rw [h i hi free, Bool.xor_self, Bool.false_and]
    · exact Bool.and_false _

theorem Machine.State.lookup_isSome {s : State} {id : SensorId} (valid : validId id = true) :
    (s.lookup id).isSome = true ↔ ∃ p, s.slotId p = some id := by
  rw [← not_iff_not, Bool.not_eq_true, Option.isSome_eq_false_iff, Option.isNone_iff_eq_none, State.lookup_eq_none]
  simp [valid]

theorem filterPasses_iff (s : State) (t : Telegram) : s.filterPasses t = true ↔ Claims.Passes s t := by
  have running : s.learn.session.isSome = true ↔ ∃ l, s.learn.session = some l := Option.isSome_iff_exists
  by_cases valid : validId t.id = true
  · have ids := (validId_iff t.id).1 valid
    simp only [State.filterPasses, Claims.Passes, Bool.and_eq_true, Bool.or_eq_true, Bool.not_eq_true', beq_iff_eq, valid,
      State.lookup_isSome valid, running, matchesPattern_iff, ids, ne_eq, not_false_eq_true, true_and, and_true, and_assoc]
  · have ids := mt (validId_iff t.id).2 valid
    simp only [State.filterPasses, Claims.Passes, Bool.and_eq_true, valid, and_false, false_and, Bool.false_eq_true, false_iff]
    exact fun h => ids ⟨h.2.1, h.2.2.1⟩

theorem Machine.State.setReceiver_filterPasses (s : State) (ch : Channel) (r : Receiver) (t : Telegram) :
    (s.setReceiver ch r).filterPasses t = s.filterPasses t := by cases ch <;> rfl

/-! ### Stored or dropped (R32, R34, R40 to R42) -/

theorem Machine.State.completeTelegram_dropped {s : State} {ch : Channel} {bits : List Bool}
    (h : ¬ crcGood bits = true ∨ s.supply.state = .low ∨ ¬ Claims.Passes s (decodeTelegram bits)) (rssi : Int) :
    s.completeTelegram ch rssi bits = s := by
  refine if_neg fun passes => ?_
  simp only [Bool.and_eq_true, beq_iff_eq, filterPasses_iff] at passes
  obtain ⟨⟨good, normal⟩, pass⟩ := passes
  rcases h with bad | low | stopped
  · exact bad good
  · rw [low] at normal; cases normal
  · exact stopped pass

theorem Machine.State.completeTelegram_offered {s : State} {bits : List Bool} (good : crcGood bits = true)
    (normal : s.supply.state = .normal) (pass : Claims.Passes s (decodeTelegram bits)) (ch : Channel) (rssi : Int) :
    s.completeTelegram ch rssi bits = s.offer ⟨ch, rssi, s.uptime, decodeTelegram bits, false⟩ := by
  refine if_pos ?_
  simp only [Bool.and_eq_true, beq_iff_eq, filterPasses_iff]
  exact ⟨⟨good, normal⟩, pass⟩

theorem Claims.passes_setReceiver (s : State) (ch : Channel) (r : Receiver) (t : Telegram) :
    Claims.Passes (s.setReceiver ch r) t ↔ Claims.Passes s t := by
  rw [← filterPasses_iff, ← filterPasses_iff, State.setReceiver_filterPasses]

/-- The telegram is stored at the tail with the LOST mark of lost-pending (R40, R42). -/
theorem offer_stored {s : State} (room : s.queue.length < 32) (ch : Channel) (r : Receiver) (rssi : Int) (w : Telegram) :
    (s.setReceiver ch r).offer ⟨ch, rssi, (s.setReceiver ch r).uptime, w, false⟩
      = { s.setReceiver ch r with
          queue := s.queue ++ [⟨ch, rssi, s.uptime, w, s.lostPending⟩]
          lostPending := false } := by
  cases ch <;> exact if_pos room

/-- At 32 entries the telegram is dropped (R41). -/
theorem offer_dropped {s : State} (full : 32 ≤ s.queue.length) (ch : Channel) (r : Receiver) (e : QueueEntry) :
    (s.setReceiver ch r).offer e = State.setFlagBoth { s.setReceiver ch r with lostPending := true } .queueLost := by
  cases ch <;> exact if_neg (Nat.not_lt.2 full)

/-- Settles O17: `collectBits_full` to the 64th bit, then the check, the supply, the filter and the queue in turn. -/
theorem completedTelegramIsFilteredAndQueued : Obligations.CompletedTelegramIsFilteredAndQueued := by
  unfold Obligations.CompletedTelegramIsFilteredAndQueued
  refine ⟨?_, fun s ch rssi sofar bits h short => exec_telegramCompletion_open h short, fun s ch history bits h => ?_⟩
  · intro s ch rssi sofar bits beyond b0 b1 b2 b3 b4 b5 b6 b7 h some bytes
    dsimp only
    have full : (sofar ++ bits).length = telegramLength := by rw [bytes]; rfl
    have supply : (s.setReceiver ch (.hunt [])).supply = s.supply := State.setReceiver_supply ..
    rw [exec_telegramCompletion_full h some full beyond, bytes, ← crcGood_bits]
    refine ⟨fun bad => congrArg _ (State.completeTelegram_dropped ?_ rssi), fun good normal pass => ?_⟩
    · rwa [supply, Claims.passes_setReceiver, decodeTelegram_bits]
    · have offered := State.completeTelegram_offered good (by rw [supply]; exact normal)
        (by rwa [Claims.passes_setReceiver, decodeTelegram_bits]) ch rssi
      rw [offered, decodeTelegram_bits]
      exact ⟨fun room => congrArg _ (offer_stored room ch _ rssi _), fun lost => congrArg _ (offer_dropped lost ch _ _)⟩
  · show execTelegramCompletion ch bits s = _
    unfold execTelegramCompletion
    simp only [h]

/-! ### A telegram sent whole -/

theorem huntBits_syncWord : huntBits [] Claims.sync = (Claims.sync, true) := by decide

theorem Machine.State.setReceiver_setReceiver (s : State) (ch : Channel) (r u : Receiver) :
    (s.setReceiver ch r).setReceiver ch u = s.setReceiver ch u := by cases ch <;> rfl

theorem Machine.State.setReceiver_receiver (s : State) (ch : Channel) (r : Receiver) : (s.setReceiver ch r).receiver ch = r := by
  cases ch <;> rfl

/-- Settles O19: the sync word found, then the telegram's own 64 bits collected and read back. -/
theorem telegramSentWholeReachesTheQueue : Obligations.TelegramSentWholeReachesTheQueue := by
  unfold Obligations.TelegramSentWholeReachesTheQueue
  intro s ch level w h normal room pass
  refine ⟨_, exec_syncDetected_found h huntBits_syncWord level, ?_⟩
  have good : crcGood (encodeTelegram w) = true := (crcGood_iff (length_telegramBits w) _).2 rfl
  have length : (encodeTelegram w).length = telegramLength := by
    rw [encodeTelegram, List.length_append, length_telegramBits, length_msbBits]
    rfl
  have sent := exec_telegramCompletion_full (s.setReceiver_receiver ch (.collect (clampRssi level) []))
    (List.ne_nil_of_length_eq_add_one length) length []
  rw [List.append_nil, List.nil_append, State.setReceiver_setReceiver, State.setReceiver_self h] at sent
  have read : decodeTelegram (encodeTelegram w) = w := decodeTelegram_telegramBits w _
  rw [sent, State.completeTelegram_offered good normal (by rwa [read]), read, ← clampRssi_eq]
  have stored := offer_stored room ch (.hunt []) (clampRssi level) w
  rw [State.setReceiver_self h] at stored
  exact congrArg _ stored

end Sys2Proof

/-! ## The taking of an entry: its frame -/

namespace Sys2Proof
open Machine Safety
open Machine.State (Stages)

/-! ### The LOST mark (R76) -/

theorem Machine.State.resetCounts_eq (s : State) : s.resetCounts
    = { s with wheels := s.wheels.map fun r => { r with pending := ⟨none, 0, none⟩, leakCount := 0 } } := by
  have wheels : (tabulate fun i : Fin 40 => { s.wheels[i] with pending := .clear, leakCount := 0 })
      = s.wheels.map fun r => { r with pending := ⟨none, 0, none⟩, leakCount := 0 } := by
    apply Vector.ext
    intro i hi
    rw [tabulate_getElem, Vector.getElem_map]
    rfl
  rw [State.resetCounts, wheels]

/-- The state whose entry is taken, its counts cleared under a LOST mark. -/
def Machine.State.counted (s : State) (e : QueueEntry) : State := if e.lost then s.resetCounts else s

/-- The taking of an entry once the LOST mark is seen to (R44, steps 2 to 4). -/
def Machine.State.handled (s : State) (e : QueueEntry) : State :=
  if s.acceptsEntry e || (s.readEntry e).handOverApplies e then (s.noteWheels ((s.readEntry e).handOver e)).evaluate
  else s.noteWheels ((s.readEntry e).handOver e)

theorem Machine.State.takeEntry_eq (s : State) (e : QueueEntry) : s.takeEntry e = (s.counted e).handled e := rfl

theorem exec_entryTaken {s : State} {e : QueueEntry} {rest : List QueueEntry} (h : s.queue = e :: rest) :
    exec .entryTaken s = .next ((State.counted { s with queue := rest } e).handled e) := by
  show execEntryTaken s = _
  unfold execEntryTaken
  simp only [h, State.takeEntry_eq]

theorem Machine.State.counted_marked (s : State) {e : QueueEntry} (h : e.lost = true) : s.counted e = s.resetCounts := if_pos h

theorem Machine.State.counted_unmarked (s : State) {e : QueueEntry} (h : e.lost = false) : s.counted e = s :=
  if_neg (by rw [h]; decide)

theorem Machine.State.counted_judges (s : State) (e : QueueEntry) : (s.counted e).Judges s := by
  unfold State.counted
  split
  · exact ⟨s.resetCounts_rest, .of_ports rfl rfl⟩
  · exact .refl s

/-- Only the first step looks at the mark. -/
theorem Machine.State.handled_mark (s : State) (e : QueueEntry) (b : Bool) : s.handled { e with lost := b } = s.handled e := rfl

/-! ### Judging by an entry -/

theorem Machine.State.Stages.grown {p : Pos} {s t : State} (h : Stages p s t) : t.Grown s := by
  induction h with
  | refl => exact .refl s
  | raise k _ _ ih => exact (State.raiseCond_grown _ p k).trans ih
  | clear k _ _ ih => exact (State.clearCond_grown _ p k).trans ih
  | write f _ _ _ ih => exact (State.modWheel_grown _ p f).trans ih

theorem Machine.State.acceptFault_grown (s : State) (p : Pos) (e : QueueEntry) : (s.acceptFault p e).Grown s :=
  (State.acceptEntry_stages _ p e).grown.trans ((State.modWheel_grown _ p _).trans (s.raiseCond_grown p .sensorFault))

theorem Machine.State.acceptReading_grown (s : State) (p : Pos) (e : QueueEntry) : (s.acceptReading p e).Grown s :=
  (State.checkPair_grown _ p).trans (s.readingJudged_stages p e).grown

theorem Machine.State.noteRssi_grown (s : State) (p : Pos) (e : QueueEntry) : (s.noteRssi p e).Grown s := by
  unfold State.noteRssi
  split
  · exact .refl s
  · exact s.modWheel_grown p _

theorem Machine.State.applyEntry_grown (s : State) (p : Pos) (e : QueueEntry) : (s.applyEntry p e).Grown s := by
  unfold State.applyEntry
  split
  · split
    · exact s.acceptFault_grown p e
    · exact s.acceptReading_grown p e
  · exact s.noteRssi_grown p e

theorem Machine.State.readEntry_judges (s : State) (e : QueueEntry) : (s.readEntry e).Judges s := by
  refine ⟨s.readEntry_rest e, ?_⟩
  unfold State.readEntry
  split
  · exact s.applyEntry_grown _ e
  · exact .refl s

/-! ### Entries that no session is handed -/

theorem Machine.State.handOver_none {s : State} {e : QueueEntry} (h : Claims.NotHandedOver s e) : s.handOver e = s := by
  unfold State.handOver
  rcases h with kind | none
  · rw [beq_false_of_ne kind]
    split <;> rfl
  · rw [none]

theorem Machine.State.handOverApplies_none {s : State} {e : QueueEntry} (h : Claims.NotHandedOver s e) :
    s.handOverApplies e = false := by
  unfold State.handOverApplies
  rcases h with kind | none
  · rw [beq_false_of_ne kind]
    split <;> rfl
  · rw [none]

theorem Claims.NotHandedOver.of_learn {s t : State} {e : QueueEntry} (h : Claims.NotHandedOver s e) (same : t.learn = s.learn) :
    Claims.NotHandedOver t e := h.imp_right fun none => by rw [same]; exact none

/-- The taking of an entry that no session is handed, once the LOST mark is seen to (R44). -/
def Machine.State.judgedBy (s : State) (e : QueueEntry) : State :=
  if s.acceptsEntry e then (s.noteWheels (s.readEntry e)).evaluate else s.noteWheels (s.readEntry e)

theorem Machine.State.judgedBy_judges (s : State) (e : QueueEntry) : (s.judgedBy e).Judges s := by
  unfold State.judgedBy
  split
  · exact ((s.readEntry_judges e).noteWheels s).evaluate
  · exact (s.readEntry_judges e).noteWheels s

theorem Machine.State.readEntry_learn (s : State) (e : QueueEntry) : (s.readEntry e).learn = s.learn :=
  (congrArg State.learn (s.readEntry_rest e) :)

theorem Machine.State.handled_unsent {s : State} {e : QueueEntry} (h : Claims.NotHandedOver s e) : s.handled e = s.judgedBy e := by
  have read := h.of_learn (s.readEntry_learn e)
  rw [State.handled, State.handOver_none read, State.handOverApplies_none read, Bool.or_false]
  rfl

theorem Machine.State.handled_judges {s : State} {e : QueueEntry} (h : Claims.NotHandedOver s e) : (s.handled e).Judges s := by
  rw [State.handled_unsent h]
  exact s.judgedBy_judges e

/-! ### Every taking -/

/-- A state without what the result of a session may change: slot map, generation, session and what judging writes. -/
def Machine.State.unlearned (s : State) : State := { s.mapless with generation := 0, learn := ⟨none, .none⟩ }

theorem Machine.State.unlearned_of_mapless {s t : State} (h : t.mapless = s.mapless) : t.unlearned = s.unlearned :=
  congrArg (fun x : State => { x with generation := 0, learn := ⟨none, .none⟩ }) h

theorem Machine.State.unlearned_of_rest {s t : State} (h : t.rest = s.rest) : t.unlearned = s.unlearned :=
  State.unlearned_of_mapless (State.mapless_of_rest h)

theorem Machine.State.applyResult_unlearned (s : State) (staging : List (Pos × Option SensorId)) :
    (s.applyResult staging).unlearned = s.unlearned := by
  have placed : (staging.foldl State.placeStaged s).mapless = s.mapless := foldl_same _ _ State.placeStaged_mapless staging s
  unfold State.applyResult
  rw [State.unlearned_of_rest (State.setFlagIf_rest _ _ _)]
  exact (congrArg (fun x : State => { x with generation := 0, learn := ⟨none, .none⟩ }) placed :)

theorem Machine.State.advance_unlearned (s : State) (l : Session) (id : Option SensorId) :
    (s.advance l id).unlearned = s.unlearned := by
  unfold State.advance
  split
  · exact s.applyResult_unlearned _
  · dsimp only
    split
    · rfl
    · exact s.applyResult_unlearned _

theorem Machine.State.handOver_unlearned (s : State) (e : QueueEntry) : (s.handOver e).unlearned = s.unlearned := by
  unfold State.handOver
  split
  · split
    · exact s.advance_unlearned _ _
    · rfl
  · rfl

theorem Machine.State.handled_unlearned (s : State) (e : QueueEntry) : (s.handled e).unlearned = s.unlearned := by
  have done : ((s.readEntry e).handOver e).unlearned = s.unlearned := by
    rw [State.handOver_unlearned, State.unlearned_of_rest (s.readEntry_rest e)]
  unfold State.handled
  split
  · rw [State.unlearned_of_rest (State.evaluate_rest _), State.unlearned_of_rest (State.noteWheels_rest _ _), done]
  · rw [State.unlearned_of_rest (State.noteWheels_rest _ _), done]

/-- Settles O20: what is left of a state without a session's result, and the LOST mark seen to before the rest. -/
theorem takingFreesTheHeadPlace : Obligations.TakingFreesTheHeadPlace := by
  unfold Obligations.TakingFreesTheHeadPlace
  intro s e rest h
  have counted := State.counted_judges { s with queue := rest } e
  have same := (State.handled_unlearned _ e).trans (State.unlearned_of_rest counted.rest)
  have taken := exec_entryTaken h
  have unsent_judges : Claims.NotHandedOver s e →
      ((State.counted { s with queue := rest } e).handled e).Judges { s with queue := rest } := fun unsent =>
    have learn : (State.counted { s with queue := rest } e).learn = s.learn := (congrArg State.learn counted.rest :)
    (State.handled_judges (unsent.of_learn learn)).trans counted
  generalize (State.counted { s with queue := rest } e).handled e = t at taken same unsent_judges
  refine ⟨t, taken, (congrArg State.queue same :), (congrArg State.pending same :), (congrArg State.rx0 same :),
    (congrArg State.rx1 same :), (congrArg State.lostPending same :), (congrArg State.axles same :),
    (congrArg State.protect same :), (congrArg State.profiles same :), (congrArg State.vehicle same :),
    (congrArg State.config same :), (congrArg State.supply same :), (congrArg State.uptime same :),
    (congrArg State.store same :), (congrArg State.nonvolatile same :), (congrArg State.freeIndex same :),
    fun q => ?_, fun unsent => (unsent_judges unsent).judgedFrom, fun lost => ?_⟩
  · cases q
    · exact ⟨(congrArg (fun x : State => x.portA.reply) same :), (congrArg (fun x : State => x.portA.mask) same :),
        (congrArg (fun x : State => x.portA.staging) same :), (congrArg (fun x : State => x.portA.selected) same :),
        (congrArg (fun x : State => x.portA.cut) same :)⟩
    · exact ⟨(congrArg (fun x : State => x.portB.reply) same :), (congrArg (fun x : State => x.portB.mask) same :),
        (congrArg (fun x : State => x.portB.staging) same :), (congrArg (fun x : State => x.portB.selected) same :),
        (congrArg (fun x : State => x.portB.cut) same :)⟩
  · rw [← taken, exec_entryTaken h, exec_entryTaken (e := { e with lost := false }) (rest := rest) rfl,
      State.counted_unmarked _ rfl, State.handled_mark, State.counted_marked _ lost, State.resetCounts_eq]

end Sys2Proof

/-! ## Entries that no record accepts -/

namespace Sys2Proof
open Machine Safety

theorem isRepeat_iff (r : WheelRecord) (e : QueueEntry) : r.isRepeat e = true ↔ Claims.IsRepeat r e := by
  unfold WheelRecord.isRepeat Claims.IsRepeat
  split
  · next q t hq ht =>
    simp only [hq, ht, Bool.and_eq_true, beq_iff_eq, Option.some.injEq]
    exact ⟨fun ⟨seq, near⟩ => ⟨t, seq, rfl, of_decide_eq_true near⟩, fun ⟨_, seq, eq, near⟩ => ⟨seq, decide_eq_true (eq ▸ near)⟩⟩
  · next missing =>
    refine ⟨nofun, fun ⟨t, hq, ht, _⟩ => (missing _ _ hq ht).elim⟩

theorem accepts_iff (r : WheelRecord) (e : QueueEntry) : r.accepts e = true ↔ Claims.Accepts r e := by
  unfold WheelRecord.accepts Claims.Accepts
  cases r.state <;> simp [← isRepeat_iff]

/-- A taking that leaves state, bands and conditions of every record sets no WHEEL. -/
theorem Machine.State.noteWheels_unjudged {b a : State} (h : ∀ p, (a.wheel p).judged = (b.wheel p).judged) :
    b.noteWheels a = a := by
  have same : wheelsChanged b a = false := by
    rw [wheelsChanged, List.any_eq_false]
    exact fun p _ => by simp [h p]
  rw [State.noteWheels, same]
  rfl

theorem Machine.State.handled_unmapped {s : State} {e : QueueEntry} (unsent : Claims.NotHandedOver s e)
    (h : s.lookup e.telegram.id = none) : s.handled e = s := by
  have refused : s.acceptsEntry e = false := by rw [State.acceptsEntry, h]
  have read : s.readEntry e = s := by rw [State.readEntry, h]
  rw [State.handled_unsent unsent, State.judgedBy, refused, read]
  exact State.noteWheels_unjudged fun _ => rfl

theorem judged_recordRssi (r : WheelRecord) (ch : Channel) (v : Int) : (r.recordRssi ch v).judged = r.judged := by
  cases ch <;> rfl

/-- An entry that its record refuses writes one RSSI field (R77, R78). -/
theorem Machine.State.handled_refused {s : State} {e : QueueEntry} {p : Pos} (unsent : Claims.NotHandedOver s e)
    (h : s.lookup e.telegram.id = some p) (refused : ¬ Claims.Accepts (s.wheel p) e) (held : (s.wheel p).state ≠ .empty) :
    s.handled e = s.setWheel p ((s.wheel p).recordRssi e.channel e.rssi) := by
  rw [← accepts_iff, Bool.not_eq_true] at refused
  have refuses : s.acceptsEntry e = false := by rw [State.acceptsEntry, h]; exact refused
  have read : s.readEntry e = s.modWheel p fun r => r.recordRssi e.channel e.rssi := by
    rw [State.readEntry, h]
    dsimp only
    rw [State.applyEntry, refused, if_neg (by decide), State.noteRssi]
    split
    · next empty => exact absurd empty held
    · rfl
  rw [State.handled_unsent unsent, State.judgedBy, refuses, read]
  refine State.noteWheels_unjudged fun q => ?_
  rw [State.modWheel_wheel]
  split
  · next here => rw [judged_recordRssi, here]
  · rfl

/-- A repeat, and any entry at a DETACHED record, is refused by a record that holds a sensor. -/
theorem refused_of_repeat_or_detached {r : WheelRecord} {e : QueueEntry}
    (h : ((r.state = .awaiting ∨ r.state = .live) ∧ Claims.IsRepeat r e) ∨ r.state = .detached) :
    ¬ Claims.Accepts r e ∧ r.state ≠ .empty := by
  unfold Claims.Accepts
  rcases h with ⟨active, again⟩ | detached
  · rcases active with state | state <;> simp [state, again]
  · simp [detached]

/-- Settles O21: an unmapped ID leaves the state, a refused entry writes its channel's RSSI. -/
theorem entriesThatAreNoReadings : Obligations.EntriesThatAreNoReadings := by
  unfold Obligations.EntriesThatAreNoReadings
  refine ⟨fun s e rest h nowhere unsent => ?_, fun s e rest p h unmarked found unsent refused => ?_, fun s h => ?_⟩
  · have counted := State.counted_judges { s with queue := rest } e
    have learn : (State.counted { s with queue := rest } e).learn = s.learn := (congrArg State.learn counted.rest :)
    have unmapped : (State.counted { s with queue := rest } e).lookup e.telegram.id = none :=
      State.lookup_eq_none.2 (.inr fun p => by rw [State.slotId_of_rest counted.rest]; exact nowhere p)
    rw [exec_entryTaken h, State.handled_unmapped (unsent.of_learn learn) unmapped, State.counted]
    split
    · rw [State.resetCounts_eq]
    · rfl
  · obtain ⟨refuses, held⟩ := refused_of_repeat_or_detached refused
    rw [exec_entryTaken h, State.counted_unmarked _ unmarked,
      State.handled_refused (s := { s with queue := rest }) unsent found refuses held]
    cases hch : e.channel <;> rfl
  · show execEntryTaken s = _
    unfold execEntryTaken
    simp only [h]

end Sys2Proof

/-! ## Judging does not look at the session -/

namespace Sys2Proof
open Machine Safety

/-- A state with another learn record. -/
def Machine.State.putLearn (s : State) (x : Learn) : State := { s with learn := x }

section
variable (s : State) (x : Learn) (p : Pos)

/-! ### What a state shows -/

@[simp] theorem Machine.State.putLearn_wheel : (s.putLearn x).wheel p = s.wheel p := rfl
@[simp] theorem Machine.State.putLearn_active (k : Condition) : (s.putLearn x).active p k = s.active p k := rfl
@[simp] theorem Machine.State.putLearn_axle (a : Fin 10) : (s.putLearn x).axle a = s.axle a := rfl
@[simp] theorem Machine.State.putLearn_levelsOf (a : Fin 10) : (s.putLearn x).levelsOf a = s.levelsOf a := rfl
@[simp] theorem Machine.State.putLearn_profileOfAxle (a : Fin 10) : (s.putLearn x).profileOfAxle a = s.profileOfAxle a := rfl
@[simp] theorem Machine.State.putLearn_lookup (id : SensorId) : (s.putLearn x).lookup id = s.lookup id := rfl
@[simp] theorem Machine.State.putLearn_coldOf (t : Telegram) : (s.putLearn x).coldOf p t = s.coldOf p t := rfl
@[simp] theorem Machine.State.putLearn_uptime : (s.putLearn x).uptime = s.uptime := rfl
@[simp] theorem Machine.State.putLearn_permit : (s.putLearn x).permit = s.permit := rfl

@[simp] theorem Machine.State.putLearn_evaluatedPermit : (s.putLearn x).evaluatedPermit = s.evaluatedPermit :=
  State.evaluatedPermit_congr rfl rfl rfl rfl rfl

theorem Machine.State.putLearn_ite (c : Prop) [Decidable c] (t u : State) :
    (if c then t else u).putLearn x = if c then t.putLearn x else u.putLearn x := apply_ite (State.putLearn · x) c t u

/-! ### Conditions and flags -/

@[simp] theorem Machine.State.modWheel_putLearn (f : WheelRecord → WheelRecord) :
    (s.putLearn x).modWheel p f = (s.modWheel p f).putLearn x := rfl

@[simp] theorem Machine.State.setFlagIf_putLearn (c : Bool) (f : EventFlag) :
    (s.putLearn x).setFlagIf c f = (s.setFlagIf c f).putLearn x := by cases c <;> rfl

@[simp] theorem Machine.State.raiseCond_putLearn (k : Condition) :
    (s.putLearn x).raiseCond p k = (s.raiseCond p k).putLearn x := by
  rw [State.raiseCond, State.raiseCond, State.putLearn_ite]
  rfl

@[simp] theorem Machine.State.clearCond_putLearn (k : Condition) :
    (s.putLearn x).clearCond p k = (s.clearCond p k).putLearn x := by
  rw [State.clearCond, State.clearCond, State.putLearn_ite]
  rfl

@[simp] theorem Machine.State.raiseOpt_putLearn (k : Option Condition) :
    (s.putLearn x).raiseOpt p k = (s.raiseOpt p k).putLearn x := by
  cases k with
  | none => rfl
  | some k => exact s.raiseCond_putLearn x p k

@[simp] theorem Machine.State.clearOpt_putLearn (k : Option Condition) :
    (s.putLearn x).clearOpt p k = (s.clearOpt p k).putLearn x := by
  cases k with
  | none => rfl
  | some k => exact s.clearCond_putLearn x p k

/-! ### The steps of an entry -/

@[simp] theorem Machine.State.acceptEntry_putLearn (e : QueueEntry) :
    (s.putLearn x).acceptEntry p e = (s.acceptEntry p e).putLearn x := by
  simp only [State.acceptEntry, State.putLearn_wheel, State.putLearn_uptime, State.modWheel_putLearn, State.clearCond_putLearn,
    State.putLearn_ite]

@[simp] theorem Machine.State.acceptFault_putLearn (e : QueueEntry) :
    (s.putLearn x).acceptFault p e = (s.acceptFault p e).putLearn x := by
  simp [State.acceptFault]

@[simp] theorem Machine.State.readCodes_putLearn (t : Telegram) :
    (s.putLearn x).readCodes p t = (s.readCodes p t).putLearn x := by
  cases low : t.batteryLow <;>
    simp only [State.readCodes, low, Bool.false_eq_true, ↓reduceIte, State.modWheel_putLearn, State.raiseCond_putLearn,
      State.clearCond_putLearn, State.putLearn_active, State.putLearn_ite]

@[simp] theorem Machine.State.setBand_putLearn (b : Band) : (s.putLearn x).setBand p b = (s.setBand p b).putLearn x := by
  simp [State.setBand]

@[simp] theorem Machine.State.setBands_putLearn (bs : List Band) :
    bs.foldl (fun u b => u.setBand p b) (s.putLearn x) = (bs.foldl (fun u b => u.setBand p b) s).putLearn x := by
  induction bs generalizing s with
  | nil => rfl
  | cons b bs ih => rw [List.foldl_cons, State.setBand_putLearn, ih, List.foldl_cons]

@[simp] theorem Machine.State.judgePressure_putLearn (n : Option Nat) (c : Int) :
    (s.putLearn x).judgePressure p n c = (s.judgePressure p n c).putLearn x := by
  simp [State.judgePressure]

@[simp] theorem Machine.State.judgeTemp_putLearn (c : BitVec 8) :
    (s.putLearn x).judgeTemp p c = (s.judgeTemp p c).putLearn x := by
  unfold State.judgeTemp
  cases measuredTemp c with
  | none => rfl
  | some t =>
    simp only [State.putLearn_wheel, State.putLearn_profileOfAxle, State.clearOpt_putLearn, State.modWheel_putLearn,
      State.raiseOpt_putLearn, State.putLearn_ite]

@[simp] theorem Machine.State.judgeLeak_putLearn (alert : Bool) (limit rate : Int) :
    (s.putLearn x).judgeLeak p alert limit rate = (s.judgeLeak p alert limit rate).putLearn x := by
  simp only [State.judgeLeak, State.putLearn_wheel, State.modWheel_putLearn, State.raiseCond_putLearn, State.clearCond_putLearn,
    State.putLearn_ite]

@[simp] theorem Machine.State.leakStep_putLearn (alert : Bool) (c : Int) (now : Uptime) :
    (s.putLearn x).leakStep p alert c now = (s.leakStep p alert c now).putLearn x := by
  unfold State.leakStep
  rw [State.putLearn_wheel]
  cases (s.wheel p).leakRef with
  | none => rfl
  | some reference =>
    simp only [State.modWheel_putLearn, State.putLearn_profileOfAxle, State.judgeLeak_putLearn, State.putLearn_ite]

theorem Machine.State.raisePair_putLearn : (s.putLearn x).raisePair p = (s.raisePair p).putLearn x := by simp [State.raisePair]

theorem Machine.State.clearPair_putLearn : (s.putLearn x).clearPair p = (s.clearPair p).putLearn x := by
  simp only [State.clearPair, State.putLearn_axle, State.clearCond_putLearn, State.putLearn_ite]

@[simp] theorem Machine.State.checkPair_putLearn : (s.putLearn x).checkPair p = (s.checkPair p).putLearn x := by
  simp only [State.checkPair, State.putLearn_axle, State.putLearn_wheel, State.putLearn_levelsOf, State.raisePair_putLearn,
    State.clearPair_putLearn, State.putLearn_ite]
  cases (s.wheel p.pairLow).livePressure with
  | none => rfl
  | some low =>
    cases (s.wheel p.pairHigh).livePressure with
    | none => rfl
    | some high => simp only [State.putLearn_ite]

@[simp] theorem Machine.State.acceptReading_putLearn (e : QueueEntry) :
    (s.putLearn x).acceptReading p e = (s.acceptReading p e).putLearn x := by
  simp [State.acceptReading, State.compensate]

@[simp] theorem Machine.State.noteRssi_putLearn (e : QueueEntry) :
    (s.putLearn x).noteRssi p e = (s.noteRssi p e).putLearn x := by
  simp only [State.noteRssi, State.putLearn_wheel]
  split <;> rfl

@[simp] theorem Machine.State.applyEntry_putLearn (e : QueueEntry) :
    (s.putLearn x).applyEntry p e = (s.applyEntry p e).putLearn x := by
  simp only [State.applyEntry, State.putLearn_wheel, State.acceptFault_putLearn, State.acceptReading_putLearn,
    State.noteRssi_putLearn, State.putLearn_ite]

omit p in
theorem Machine.State.readEntry_putLearn (e : QueueEntry) : (s.putLearn x).readEntry e = (s.readEntry e).putLearn x := by
  unfold State.readEntry
  rw [State.putLearn_lookup]
  split
  · exact State.applyEntry_putLearn _ _ _ _
  · rfl

omit p in
theorem Machine.State.evaluate_putLearn : (s.putLearn x).evaluate = s.evaluate.putLearn x := by
  unfold State.evaluate
  rw [State.putLearn_permit]
  cases s.permit.basis with
  | starting => rfl
  | evaluated =>
    rw [State.putLearn_evaluatedPermit]
    exact State.setFlagIf_putLearn { s with permit := s.evaluatedPermit } x _ _

end

end Sys2Proof

/-! ## The hand-over of a LEARN entry -/

namespace Sys2Proof
open Machine Safety

/-! ### A flag set before or after judging -/

theorem Machine.State.setFlagBoth_eq (s : State) (f : EventFlag) : s.setFlagBoth f
    = { s with
        portA := { s.portA with flags := s.portA.flags ||| f.bit }
        portB := { s.portB with flags := s.portB.flags ||| f.bit } } := rfl

theorem Machine.State.setFlagBoth_comm (s : State) (f g : EventFlag) :
    (s.setFlagBoth f).setFlagBoth g = (s.setFlagBoth g).setFlagBoth f := by
  have order (x : BitVec 11) : x ||| f.bit ||| g.bit = x ||| g.bit ||| f.bit := by
    rw [BitVec.or_assoc, BitVec.or_comm f.bit, BitVec.or_assoc]
  rw [State.setFlagBoth_eq (s.setFlagBoth f), State.setFlagBoth_eq s f, State.setFlagBoth_eq (s.setFlagBoth g),
    State.setFlagBoth_eq s g]
  dsimp only
  rw [order, order]

theorem Machine.State.setFlagIf_setFlagBoth (s : State) (c : Bool) (f g : EventFlag) :
    (s.setFlagBoth f).setFlagIf c g = (s.setFlagIf c g).setFlagBoth f := by
  cases c
  · rfl
  · exact s.setFlagBoth_comm f g

theorem Machine.State.setFlagBoth_evaluatedPermit (s : State) (f : EventFlag) :
    (s.setFlagBoth f).evaluatedPermit = s.evaluatedPermit :=
  State.evaluatedPermit_congr rfl rfl rfl rfl rfl

theorem Machine.State.evaluate_setFlagBoth (s : State) (f : EventFlag) : (s.setFlagBoth f).evaluate = s.evaluate.setFlagBoth f := by
  unfold State.evaluate
  rw [show (s.setFlagBoth f).permit = s.permit from rfl]
  cases s.permit.basis with
  | starting => rfl
  | evaluated =>
    rw [State.setFlagBoth_evaluatedPermit]
    exact State.setFlagIf_setFlagBoth { s with permit := s.evaluatedPermit } _ f .permit

/-! ### The taking without a hand-over -/

theorem Machine.State.judgedBy_putLearn (s : State) (x : Learn) (e : QueueEntry) :
    (s.putLearn x).judgedBy e = (s.judgedBy e).putLearn x := by
  have noted : (s.putLearn x).noteWheels ((s.putLearn x).readEntry e) = (s.noteWheels (s.readEntry e)).putLearn x := by
    rw [State.readEntry_putLearn]
    exact State.setFlagIf_putLearn _ x _ _
  unfold State.judgedBy
  rw [noted, State.evaluate_putLearn, State.putLearn_ite]
  rfl

theorem Machine.State.judgedBy_wheels (s : State) (e : QueueEntry) : (s.judgedBy e).wheels = (s.readEntry e).wheels := by
  unfold State.judgedBy
  split <;> simp

/-! ### The tests of R131 -/

theorem stages_iff {s : State} {l : Session} {p : Pos} {e : QueueEntry} (here : l.positions[l.cursor]? = some p) :
    s.stages l e = true ↔ Claims.Stageable s l p e := by
  unfold State.stages Claims.Stageable
  change _ ↔ e.channel = s.expectedChannel p ∧ _
  rw [Session.here, here, eq_comm (a := e.channel)]
  cases s.lookup e.telegram.id <;> simp [and_assoc, ← protectedAxle_iff]

theorem Claims.stageable_of_rest {s t : State} (h : t.rest = s.rest) (l : Session) (p : Pos) (e : QueueEntry) :
    Claims.Stageable t l p e ↔ Claims.Stageable s l p e := by
  have config : t.config = s.config := (congrArg State.config h :)
  have protect : t.protect = s.protect := (congrArg State.protect h :)
  have lookup : t.lookup = s.lookup := by
    funext id
    unfold State.lookup
    rw [show t.slotId = s.slotId from funext (State.slotId_of_rest h)]
  unfold Claims.Stageable Claims.Protected
  rw [config, protect, lookup, State.axle_of_rest h]

/-! ### Advancing the cursor (R132) -/

theorem Machine.State.advance_more (s : State) {l : Session} {p : Pos} (id : Option SensorId) (here : l.here = some p)
    (more : l.cursor + 1 < l.positions.length) :
    s.advance l id = State.setFlagBoth (s.putLearn { s.learn with session := some (l.staged p id s.uptime) }) .learn := by
  rw [State.advance, here]
  exact if_pos more

theorem Machine.State.advance_last (s : State) {l : Session} {p : Pos} (id : Option SensorId) (here : l.here = some p)
    (last : l.cursor + 1 = l.positions.length) :
    s.advance l id = (s.applyResult (l.staging ++ [(p, id)])).endSession .completed := by
  rw [State.advance, here]
  exact if_neg (by simp [last])

theorem Machine.State.handOver_of_stages {s : State} {l : Session} {e : QueueEntry} (running : s.learn.session = some l)
    (learn : e.telegram.kind = .learn) (staged : s.stages l e = true) : s.handOver e = s.advance l (some e.telegram.id) := by
  rw [State.handOver, running]
  exact if_pos (by simp [learn, staged])

/-! ### The three outcomes -/

section
variable {s : State} {e : QueueEntry} {l : Session} (running : s.learn.session = some l)
include running

theorem Machine.State.handled_refused_of_session (refused : (s.readEntry e).stages l e = false) : s.handled e = s.judgedBy e := by
  have session : (s.readEntry e).learn.session = some l := by rw [s.readEntry_learn e, running]
  have same : (s.readEntry e).handOver e = s.readEntry e := by
    rw [State.handOver, session]
    simp [refused]
  have none : (s.readEntry e).handOverApplies e = false := by
    rw [State.handOverApplies, session]
    simp [refused]
  rw [State.handled, same, none, Bool.or_false]
  rfl

/-- An entry that is staged at a position that is not the last. -/
theorem Machine.State.handled_staged {p : Pos} (learn : e.telegram.kind = .learn) (staged : (s.readEntry e).stages l e = true)
    (here : l.here = some p) (more : l.cursor + 1 < l.positions.length) :
    s.handled e = State.setFlagBoth ((s.judgedBy e).putLearn
      { s.learn with session := some (l.staged p (some e.telegram.id) s.uptime) }) .learn := by
  have session : (s.readEntry e).learn.session = some l := by rw [s.readEntry_learn e, running]
  have uptime : (s.readEntry e).uptime = s.uptime := (congrArg State.uptime (s.readEntry_rest e) :)
  have handed : (s.readEntry e).handOver e = State.setFlagBoth ((s.readEntry e).putLearn
      { s.learn with session := some (l.staged p (some e.telegram.id) s.uptime) }) .learn := by
    rw [State.handOver_of_stages session learn staged, State.advance_more _ _ here more, uptime, s.readEntry_learn e]
  have none : (s.readEntry e).handOverApplies e = false := by
    rw [State.handOverApplies, session]
    simp [Session.atLast, more]
  have noted (x : Learn) : s.noteWheels (State.setFlagBoth ((s.readEntry e).putLearn x) .learn)
      = State.setFlagBoth ((s.noteWheels (s.readEntry e)).putLearn x) .learn := by
    rw [State.noteWheels, State.setFlagIf_setFlagBoth, State.setFlagIf_putLearn]
    rfl
  rw [State.handled, none, handed, noted, Bool.or_false, State.evaluate_setFlagBoth, State.evaluate_putLearn, State.judgedBy]
  split <;> rfl

/-- An entry that is staged at the last position: the result is applied. -/
theorem Machine.State.handled_last {p : Pos} (learn : e.telegram.kind = .learn) (staged : (s.readEntry e).stages l e = true)
    (here : l.here = some p) (last : l.cursor + 1 = l.positions.length) :
    s.handled e = (s.noteWheels (((s.readEntry e).applyResult (l.staging ++ [(p, some e.telegram.id)])).endSession
      .completed)).evaluate := by
  have session : (s.readEntry e).learn.session = some l := by rw [s.readEntry_learn e, running]
  have applies : (s.readEntry e).handOverApplies e = true := by
    rw [State.handOverApplies, session]
    simp [learn, staged, Session.atLast, last]
  rw [State.handled, applies, Bool.or_true, if_pos rfl, State.handOver_of_stages session learn staged,
    State.advance_last _ _ here last]

end

end Sys2Proof

/-! ## The result of a session applied -/

namespace Sys2Proof
open Machine Safety

/-! ### Records that another slot's treatment touches -/

/-- A record whose IMBALANCE the treatment of its pair's other wheel cleared, if it did (R20). -/
def Machine.WheelRecord.Quieted (r u : WheelRecord) : Prop :=
  r = u ∨ r = { u with conditions := u.conditions.put .imbalance false }

theorem Machine.WheelRecord.Quieted.trans {r u v : WheelRecord} (h : r.Quieted u) (g : u.Quieted v) : r.Quieted v := by
  rcases h with rfl | rfl
  · exact g
  · rcases g with rfl | rfl
    · exact .inr rfl
    · refine .inr ?_
      dsimp only
      rw [Conditions.put_same (b := false) (by simp)]

theorem Machine.WheelRecord.Quieted.upToImbalance {r u : WheelRecord} (h : r.Quieted u) : Claims.UpToImbalance r u := by
  rcases h with rfl | rfl
  · exact upToImbalance_refl _
  · exact upToImbalance_put _ _

/-- A record without conditions stays as it is. -/
theorem Machine.WheelRecord.Quieted.eq_of_none {r u : WheelRecord} (h : r.Quieted u) (none : u.conditions = .none) : r = u := by
  rcases h with rfl | rfl
  · rfl
  · rw [none, Conditions.none_put_false, ← none]

theorem Machine.State.clearRecords_quieted (s : State) {ps : List Pos} {q : Pos} (h : q ∉ ps) :
    ((s.clearRecords ps).wheel q).Quieted (s.wheel q) := by
  rw [State.clearRecords_wheel, if_neg h]
  split
  · exact .inr rfl
  · exact .inl rfl

theorem Machine.State.freshAt_quieted (s : State) {p q : Pos} (id : SensorId) (h : q ≠ p) :
    ((s.freshAt p id).wheel q).Quieted (s.wheel q) := by
  rw [State.freshAt_wheel, if_neg h.symm]
  exact s.clearRecords_quieted (by simpa using h)

theorem Machine.State.emptyAt_quieted (s : State) {p q : Pos} (h : q ≠ p) : ((s.emptyAt p).wheel q).Quieted (s.wheel q) := by
  rw [State.emptyAt_eq, State.emptyAll_wheel, if_neg (by simpa using h)]
  exact s.clearRecords_quieted (by simpa using h)

/-! ### One staging entry (R139) -/

theorem Machine.State.uptime_of_mapless {s t : State} (h : t.mapless = s.mapless) : t.uptime = s.uptime :=
  (congrArg State.uptime h :)

/-- A state that places an ID at one slot, takes it away from the slot that held it, and leaves the others. -/
structure Machine.State.Places (t s : State) (p : Pos) (id : SensorId) : Prop where
  here : t.slotId p = some id ∧ t.wheel p = .fresh (startState (s.detachedSlot p)) s.uptime
  left : ∀ q, q ≠ p → s.slotId q = some id → t.slotId q = none ∧ t.wheel q = .empty
  other : ∀ q, q ≠ p → s.slotId q ≠ some id → t.slotId q = s.slotId q ∧ (t.wheel q).Quieted (s.wheel q)

theorem Machine.State.freshAt_places {s : State} {p : Pos} {id : SensorId} (alone : ∀ q, s.slotId q = some id → q = p) :
    (s.freshAt p id).Places s p id where
  here := ⟨by rw [State.freshAt_slotId, if_pos rfl], by rw [State.freshAt_wheel, if_pos rfl]⟩
  left q hq held := absurd (alone q held) hq
  other q hq _ := ⟨by rw [State.freshAt_slotId, if_neg hq.symm], s.freshAt_quieted id hq⟩

/-- The ID is taken away from the slot that held it, before it is placed. -/
theorem Machine.State.emptyAt_freshAt_places {s : State} {p q : Pos} {id : SensorId} (ne : q ≠ p)
    (held : ∀ r, s.slotId r = some id ↔ r = q) : ((s.emptyAt q).freshAt p id).Places s p id where
  here := by
    have mapless := s.emptyAt_mapless q
    exact ⟨by rw [State.freshAt_slotId, if_pos rfl],
      by rw [State.freshAt_wheel, if_pos rfl, State.detachedSlot_of_mapless mapless,
        State.uptime_of_mapless mapless]⟩
  left r hr has := by
    obtain rfl := (held r).1 has
    have mem := List.mem_singleton_self r
    have quieted := State.freshAt_quieted (s.emptyAt r) id hr
    rw [State.emptyAt_eq, State.emptyAll_wheel, if_pos mem] at quieted
    refine ⟨?_, quieted.eq_of_none rfl⟩
    rw [State.freshAt_slotId, if_neg hr.symm, State.emptyAt_eq, State.emptyAll_slotId, if_pos mem]
  other r hr without := by
    have away : r ≠ q := fun e => without ((held r).2 e)
    refine ⟨?_, (State.freshAt_quieted _ id hr).trans (s.emptyAt_quieted away)⟩
    rw [State.freshAt_slotId, if_neg hr.symm, State.emptyAt_eq, State.emptyAll_slotId, if_neg (by simpa using away)]

theorem Machine.State.placeStaged_places {s : State} (map : MapLaw s) (p : Pos) {id : SensorId} (valid : validId id = true) :
    (s.placeStaged (p, some id)).Places s p id := by
  unfold State.placeStaged
  dsimp only
  cases found : s.lookup id with
  | none => exact State.freshAt_places (map.alone valid (.inl found))
  | some q =>
    dsimp only
    split
    · next here => exact State.freshAt_places (map.alone valid (.inr (here ▸ found)))
    · next ne =>
      exact State.emptyAt_freshAt_places ne fun r =>
        ⟨map.alone valid (.inr found) r, fun e => e ▸ (State.lookup_some found).2⟩

/-! ### The whole of a staging -/

/-- What a staging needs of a state to be applied: its entries can be placed at attached slots, no slot and no ID twice. -/
structure Machine.State.Admits (s : State) (staging : List (Pos × Option SensorId)) : Prop where
  places : ∀ e ∈ staging, s.CanPlace e
  attached : ∀ e ∈ staging, s.detachedSlot e.1 = false
  slots : (staging.map Prod.fst).Nodup
  ids : (staging.filterMap Prod.snd).Nodup

/-- A staging applied from one state to another: what Claims.ResultApplied asks of map and records (R139). -/
structure Machine.State.Applies (t s : State) (staging : List (Pos × Option SensorId)) : Prop where
  placed : ∀ p id, (p, some id) ∈ staging → t.slotId p = some id ∧ t.wheel p = .fresh .awaiting s.uptime
  left : ∀ p, (∀ id, (p, some id) ∉ staging) → (∃ id p', s.slotId p = some id ∧ (p', some id) ∈ staging) →
    t.slotId p = none ∧ t.wheel p = .empty
  other : ∀ p, (∀ id, (p, some id) ∉ staging) → (¬ ∃ id p', s.slotId p = some id ∧ (p', some id) ∈ staging) →
    t.slotId p = s.slotId p ∧ (t.wheel p).Quieted (s.wheel p)

theorem Machine.State.Admits.tail {s : State} {e : Pos × Option SensorId} {rest : List (Pos × Option SensorId)}
    (h : s.Admits (e :: rest)) : (s.placeStaged e).Admits rest := by
  have mapless := s.placeStaged_mapless e
  refine ⟨fun x hx => ?_, fun x hx => ?_, (List.nodup_cons.1 h.slots).2, ?_⟩
  · obtain ⟨valid, good⟩ := h.places x (List.mem_cons_of_mem _ hx)
    exact ⟨by rw [State.validPos_of_mapless mapless]; exact valid, good⟩
  · rw [State.detachedSlot_of_mapless mapless]
    exact h.attached x (List.mem_cons_of_mem _ hx)
  · exact h.ids.sublist ((List.sublist_cons_self e rest).filterMap _)

/-- The ID of the first entry is not staged again. -/
theorem Machine.State.Admits.head_id {s : State} {p q : Pos} {id : SensorId} {rest : List (Pos × Option SensorId)}
    (h : s.Admits ((p, some id) :: rest)) : (q, some id) ∉ rest := fun mem => by
  have ids := h.ids
  rw [List.filterMap_cons_some (f := Prod.snd) (b := id) rfl] at ids
  exact (List.nodup_cons.1 ids).1 (List.mem_filterMap.2 ⟨_, mem, rfl⟩)

/-- The slot of the first entry is not staged again. -/
theorem Machine.State.Admits.head_slot {s : State} {e : Pos × Option SensorId} {rest : List (Pos × Option SensorId)}
    (h : s.Admits (e :: rest)) (id : Option SensorId) : (e.1, id) ∉ rest := fun mem =>
  (List.nodup_cons.1 h.slots).1 (List.mem_map.2 ⟨_, mem, rfl⟩)

/-- A first entry that places an ID, and what follows it. -/
theorem Machine.State.Applies.cons {t u s : State} {p : Pos} {id : SensorId} {rest : List (Pos × Option SensorId)}
    (admits : s.Admits ((p, some id) :: rest)) (first : u.Places s p id) (uptime : u.uptime = s.uptime)
    (following : t.Applies u rest) : t.Applies s ((p, some id) :: rest) := by
  have once (q : Pos) := admits.head_id (q := q)
  have alone := admits.head_slot
  obtain ⟨⟨slot, fresh⟩, left, other⟩ := first
  rw [admits.attached _ List.mem_cons_self] at fresh
  refine ⟨fun q i mem => ?_, fun q out ⟨i, r, held, mem⟩ => ?_, fun q out free => ?_⟩
  · rcases List.mem_cons.1 mem with head | tail
    · cases head
      have stays := following.other p (fun i => alone _) (by rw [slot]; rintro ⟨_, r, ⟨⟩, mem⟩; exact once r mem)
      rw [slot, fresh] at stays
      exact ⟨stays.1, stays.2.eq_of_none rfl⟩
    · rw [← uptime]
      exact following.placed q i tail
  · have ne : q ≠ p := fun e => out id (e ▸ List.mem_cons_self)
    have outside (i : SensorId) : (q, some i) ∉ rest := fun mem => out i (List.mem_cons_of_mem _ mem)
    rcases List.mem_cons.1 mem with head | tail
    · cases head
      obtain ⟨gone, empty⟩ := left q ne held
      have stays := following.other q outside (by rw [gone]; rintro ⟨_, _, ⟨⟩, _⟩)
      rw [gone, empty] at stays
      exact ⟨stays.1, stays.2.eq_of_none rfl⟩
    · have differs : s.slotId q ≠ some id := fun e => once r (by rwa [← Option.some.inj (held.symm.trans e)])
      exact following.left q outside ⟨i, r, by rw [(other q ne differs).1, held], tail⟩
  · have ne : q ≠ p := fun e => out id (e ▸ List.mem_cons_self)
    have differs : s.slotId q ≠ some id := fun e => free ⟨id, p, e, List.mem_cons_self⟩
    obtain ⟨same, quieted⟩ := other q ne differs
    have stays := following.other q (fun i mem => out i (List.mem_cons_of_mem _ mem))
      fun ⟨i, r, held, mem⟩ => free ⟨i, r, same ▸ held, List.mem_cons_of_mem _ mem⟩
    exact ⟨stays.1.trans same, stays.2.trans quieted⟩

theorem Machine.State.placeAll_applies {s : State} (k : Kept s) {staging : List (Pos × Option SensorId)} (h : s.Admits staging) :
    (staging.foldl State.placeStaged s).Applies s staging := by
  induction staging generalizing s with
  | nil => exact ⟨fun _ _ mem => absurd mem List.not_mem_nil, fun _ _ ⟨_, _, _, mem⟩ => absurd mem List.not_mem_nil,
      fun _ _ _ => ⟨rfl, .inl rfl⟩⟩
  | cons e rest ih =>
    have canPlace := h.places e List.mem_cons_self
    have tail := ih (k.placeStaged e canPlace) h.tail
    have uptime := State.uptime_of_mapless (s.placeStaged_mapless e)
    obtain ⟨p, none | id⟩ := e
    · have staged {q : Pos} {i : SensorId} : (q, some i) ∈ (p, none) :: rest ↔ (q, some i) ∈ rest := by simp
      exact ⟨fun q i mem => tail.placed q i (staged.1 mem),
        fun q out ⟨i, r, held, mem⟩ => tail.left q (fun i m => out i (staged.2 m)) ⟨i, r, held, staged.1 mem⟩,
        fun q out free => tail.other q (fun i m => out i (staged.2 m))
          fun ⟨i, r, held, mem⟩ => free ⟨i, r, held, staged.2 mem⟩⟩
    · exact .cons h (State.placeStaged_places k.wheels.map p (canPlace.2 id rfl)) uptime tail

end Sys2Proof

/-! ## The learn entry taken -/

namespace Sys2Proof
open Machine Safety

/-! ### The result as one change (R139, R140) -/

theorem Machine.State.applyResult_slots (s : State) (staging : List (Pos × Option SensorId)) :
    (s.applyResult staging).slots = (staging.foldl State.placeStaged s).slots := by
  simp [State.applyResult]

theorem Machine.State.applyResult_wheels (s : State) (staging : List (Pos × Option SensorId)) :
    (s.applyResult staging).wheels = (staging.foldl State.placeStaged s).wheels := by
  simp [State.applyResult]

theorem Machine.State.placeStaged_grown (s : State) (e : Pos × Option SensorId) : (s.placeStaged e).Grown s := by
  have fresh (t : State) (p : Pos) (id : SensorId) : (t.freshAt p id).Grown t :=
    (t.freshAt_judges p id).grown.trans (.of_ports rfl rfl)
  have empty (t : State) (p : Pos) : (t.emptyAt p).Grown t := (t.emptyAt_judges p).grown.trans (.of_ports rfl rfl)
  unfold State.placeStaged
  split
  · exact .refl s
  · split
    · split
      · exact fresh s _ _
      · exact (fresh _ _ _).trans (empty s _)
    · exact fresh s _ _

theorem Machine.State.Judges.withSlots {t u : State} (h : t.Judges u) (x : Vector (Option SensorId) 40) :
    State.Judges { t with slots := x } { u with slots := x } :=
  ⟨(congrArg (fun y : State => { y with slots := x }) h.rest :), h.grown⟩

/-- A result applied to a judged state, but for the records (R140). -/
theorem Machine.State.Judges.applyResult {t u : State} (h : t.Judges u) (staging : List (Pos × Option SensorId)) :
    (t.applyResult staging).Judges
      (State.setFlagBoth { u with slots := (t.applyResult staging).slots, generation := u.generation + 1 } .image) := by
  have placed : (staging.foldl State.placeStaged t).Judges { u with slots := (t.applyResult staging).slots } := by
    rw [State.applyResult_slots]
    exact (State.judges_of_mapless (foldl_same _ _ State.placeStaged_mapless staging t)
      (foldl_grown _ State.placeStaged_grown staging t)).trans (h.withSlots _)
  exact (placed.generation.setFlagBoth .image).setFlagIf _ .wheel (by decide)

/-- A result that places an ID sets WHEEL (R140). -/
theorem Machine.State.applyResult_flagged (s : State) {staging : List (Pos × Option SensorId)} {p : Pos} {id : SensorId}
    (h : (p, some id) ∈ staging) : Claims.Flagged (s.applyResult staging) .wheel := by
  have some : (staging.any fun e => e.2.isSome) = true := List.any_eq_true.2 ⟨_, h, rfl⟩
  unfold State.applyResult
  rw [some]
  exact Claims.flagged_setFlagBoth _ .wheel

theorem Claims.Flagged.setFlagBoth {s : State} {f : EventFlag} (h : Claims.Flagged s f) (e : EventFlag) :
    Claims.Flagged (s.setFlagBoth e) f := fun q => by
  rw [State.setFlagBoth_flag, h q, Bool.true_or]

/-- What is applied to map and records, however the rest of the states differs (R139, R140). -/
theorem Machine.State.Applies.resultApplied {t u r x : State} {staging : List (Pos × Option SensorId)} (h : t.Applies u staging)
    (before : r.slots = u.slots ∧ r.wheels = u.wheels ∧ r.uptime = u.uptime) (after : x.slots = t.slots ∧ x.wheels = t.wheels)
    (flagged : ∀ p id, (p, some id) ∈ staging → Claims.Flagged x .wheel) : Claims.ResultApplied r x staging := by
  obtain ⟨slots, wheels, uptime⟩ := before
  obtain ⟨slots', wheels'⟩ := after
  have slot (p : Pos) : r.slotId p = u.slotId p := by rw [State.slotId, slots]; rfl
  have slot' (p : Pos) : x.slotId p = t.slotId p := by rw [State.slotId, slots']; rfl
  refine ⟨fun p id mem => ?_, fun p out => ⟨fun held => ?_, fun free => ?_⟩⟩
  · obtain ⟨here, fresh⟩ := h.placed p id mem
    rw [slot', State.wheel_of_wheels wheels', uptime]
    exact ⟨here, flagged p id mem, fresh⟩
  · simp only [slot] at held
    rw [slot', State.wheel_of_wheels wheels']
    exact h.left p out held
  · simp only [slot] at free
    obtain ⟨same, quieted⟩ := h.other p out free
    rw [slot', slot, State.wheel_of_wheels wheels', State.wheel_of_wheels wheels]
    exact ⟨same, quieted.upToImbalance⟩

/-! ### What a session stages can be applied -/

/-- A slot of a session's range is attached (R129, R135). -/
theorem Safety.SessionLaw.attached {s : State} (h : SessionLaw s) {l : Session} (running : s.learn.session = some l) {p : Pos}
    (listed : p ∈ l.positions) : s.detachedSlot p = false := by
  rw [h.positions l running] at listed
  obtain ⟨covers, valid⟩ := State.mem_positionList.1 listed
  have present : (s.axle p.axle).present = true := by
    simp only [State.validPos, AxleRecord.validSlot, Bool.and_eq_true] at valid
    exact valid.1
  unfold State.detachedSlot
  by_cases trailer : (s.axle p.axle).unit = .trailer
  · have coupled := h.trailer l running (List.any_eq_true.2 ⟨p.axle, List.mem_finRange _, by simp [covers, present, trailer]⟩)
    simp [coupled]
  · simp [trailer]

theorem Safety.SessionLaw.nodup {s : State} (h : SessionLaw s) {l : Session} (running : s.learn.session = some l) :
    l.positions.Nodup := by
  rw [h.positions l running]
  exact allPos_nodup.filter _

/-- What a session has staged with one entry more at its cursor can be applied. -/
theorem Safety.SessionLaw.admits {s : State} (h : SessionLaw s) {l : Session} (running : s.learn.session = some l) {p : Pos}
    (here : l.here = some p) {id : SensorId} (valid : validId id = true) (new : ∀ e ∈ l.staging, e.2 ≠ some id) :
    s.Admits (l.staging ++ [(p, some id)]) := by
  have slots : (l.staging ++ [(p, some id)]).map Prod.fst = l.positions.take (l.cursor + 1) := by
    unfold Session.here at here
    rw [List.map_append, h.staged l running, List.take_add_one, here]
    rfl
  have listed (e : Pos × Option SensorId) (he : e ∈ l.staging ++ [(p, some id)]) : e.1 ∈ l.positions :=
    List.mem_of_mem_take (slots ▸ List.mem_map_of_mem he)
  refine ⟨fun e he => ?_, fun e he => h.attached running (listed e he), ?_, ?_⟩
  · have inside := listed e he
    rw [h.positions l running] at inside
    refine ⟨(State.mem_positionList.1 inside).2, fun i hi => ?_⟩
    rcases List.mem_append.1 he with old | last
    · exact h.ids l running e old i hi
    · obtain rfl := List.mem_singleton.1 last
      cases hi
      exact valid
  · rw [slots]
    exact (h.nodup running).sublist (List.take_sublist _ _)
  · have fresh : id ∉ l.staging.filterMap Prod.snd := fun mem => by
      obtain ⟨e, he, hi⟩ := List.mem_filterMap.1 mem
      exact new e he hi
    rw [List.filterMap_append, List.nodup_append]
    refine ⟨h.unique l running, by simp, fun x hx y hy e => fresh ?_⟩
    obtain rfl : y = id := by simpa using hy
    exact e ▸ hx

/-! ### The statement -/

/-- The taking of an entry without a session. -/
theorem exec_entryTaken_unsent {s : State} {e : QueueEntry} {rest : List QueueEntry} (h : s.queue = e :: rest)
    (unmarked : e.lost = false) {x : Learn} (ended : x.session = none) : exec .entryTaken (s.putLearn x)
      = .next ((State.judgedBy { s with queue := rest } e).putLearn x) := by
  have queue : (s.putLearn x).queue = e :: rest := h
  rw [exec_entryTaken queue, State.counted_unmarked _ unmarked, State.handled_unsent (.inr ended), ← State.judgedBy_putLearn]
  rfl

theorem Machine.State.judgedBy_learn (s : State) (e : QueueEntry) : (s.judgedBy e).learn = s.learn :=
  (congrArg State.learn (s.judgedBy_judges e).rest :)

theorem Machine.State.judgedBy_slots (s : State) (e : QueueEntry) : (s.judgedBy e).slots = (s.readEntry e).slots :=
  (congrArg State.slots ((s.judgedBy_judges e).rest.trans (s.readEntry_rest e).symm) :)

theorem Machine.State.judgedBy_uptime (s : State) (e : QueueEntry) : (s.judgedBy e).uptime = (s.readEntry e).uptime :=
  (congrArg State.uptime ((s.judgedBy_judges e).rest.trans (s.readEntry_rest e).symm) :)

/-- The end of an event that completes a session. -/
theorem Machine.State.completed_slots (b u : State) (o : LearnOutcome) :
    (b.noteWheels (u.endSession o)).evaluate.slots = u.slots :=
  (congrArg State.slots ((State.Judges.refl (u.endSession o)).noteWheels b).evaluate.rest :)

theorem Machine.State.completed_wheels (b u : State) (o : LearnOutcome) :
    (b.noteWheels (u.endSession o)).evaluate.wheels = u.wheels := by simp [State.endSession]

theorem Claims.Flagged.completed {u : State} {f : EventFlag} (h : Claims.Flagged u f) (b : State) (o : LearnOutcome) :
    Claims.Flagged (b.noteWheels (u.endSession o)).evaluate f := by
  have ended : Claims.Flagged (u.endSession o) f := Claims.Flagged.setFlagBoth (s := u.putLearn ⟨none, o⟩) h .learn
  exact ((State.noteWheels_grown b _).flagged ended).evaluate

/-- A result applied by a LEARN entry at the last position (R132, R139, R140). -/
theorem handled_applies {s : State} {e : QueueEntry} {l : Session} {p : Pos} (k : Kept s) (valid : validId e.telegram.id = true)
    (learn : e.telegram.kind = .learn) (running : s.learn.session = some l) (here : l.here = some p)
    (staged : (s.readEntry e).stages l e = true) (new : ∀ x ∈ l.staging, x.2 ≠ some e.telegram.id)
    (last : l.cursor + 1 = l.positions.length) :
    (s.handled e).Judges (State.setFlagBoth (State.setFlagBoth
      { s with generation := s.generation + 1, slots := (s.handled e).slots, learn := ⟨none, .completed⟩ } .image) .learn)
    ∧ ∀ x, Claims.ResultApplied ((s.judgedBy e).putLearn x) (s.handled e) (l.staging ++ [(p, some e.telegram.id)]) := by
  have read : Kept (s.readEntry e) :=
    k.of_rest (s.readEntry_rest e) (k.wheels.readEntry ⟨k.outer.range.ambient, k.outer.range.config.reference⟩ e)
  have session : (s.readEntry e).learn.session = some l := by rw [s.readEntry_learn e, running]
  have applies := State.placeAll_applies read (read.outer.session.admits session here valid new)
  have flagged := (s.readEntry e).applyResult_flagged
    (show (p, some e.telegram.id) ∈ l.staging ++ [(p, some e.telegram.id)] by simp)
  have judges := (s.readEntry_judges e).applyResult (l.staging ++ [(p, some e.telegram.id)])
  rw [State.handled_last running learn staged here last]
  generalize l.staging ++ [(p, some e.telegram.id)] = staging at applies flagged judges
  refine ⟨?_, fun x => applies.resultApplied ⟨s.judgedBy_slots e, s.judgedBy_wheels e, s.judgedBy_uptime e⟩ ⟨?_, ?_⟩
    fun _ _ _ => flagged.completed s _⟩
  · rw [State.completed_slots]
    exact ((judges.endSession .completed).noteWheels s).evaluate
  · rw [State.completed_slots, State.applyResult_slots]
  · rw [State.completed_wheels, State.applyResult_wheels]

/-- Settles O51: what the session stages does not touch the judging, and a result is applied entry by entry. -/
theorem learnEntryIsStagedOrIgnored : Obligations.LearnEntryIsStagedOrIgnored := by
  unfold Obligations.LearnEntryIsStagedOrIgnored
  intro s r e rest l p h unmarked learn running here taken
  have gives := exec_entryTaken_unsent h unmarked (x := { s.learn with session := none }) rfl
  obtain rfl := Host.Outcome.next.inj (gives.symm.trans taken)
  clear taken gives
  rw [exec_entryTaken h, State.counted_unmarked _ unmarked]
  have tests : (State.readEntry { s with queue := rest } e).stages l e = true ↔ Claims.Stageable s l p e :=
    (stages_iff here).trans (Claims.stageable_of_rest (State.readEntry_rest _ e) l p e)
  refine ⟨fun fails => ?_, fun stageable more => ?_, fun lawful stageable last => ?_⟩
  · have refused := Bool.eq_false_iff.2 (mt tests.1 fails)
    rw [State.handled_refused_of_session (s := { s with queue := rest }) running refused]
    have same := State.judgedBy_learn { s with queue := rest } e
    generalize State.judgedBy { s with queue := rest } e = t at same
    rw [← show t.learn = s.learn from same]
    rfl
  · rw [State.handled_staged (s := { s with queue := rest }) running learn (tests.2 stageable) here more]
    rfl
  · have valid : validId e.telegram.id = true := lawful.receive.ids e (h ▸ List.mem_cons_self)
    have kept : Kept { s with queue := rest } := (Kept.of_lawful lawful).of_eq rfl rfl
    obtain ⟨judges, applied⟩ := handled_applies kept valid learn running here (tests.2 stageable) stageable.2.2.1 last
    exact ⟨_, rfl, judges.judgedFrom, applied _⟩

end Sys2Proof

/-! ## Cold-equivalent pressure and the levels of a profile -/

namespace Sys2Proof
open Machine

/-! ### The rounded quotient (R53) -/

section
variable {pressure reference used : Int} (hp : 0 ≤ pressure) (hr : 0 ≤ reference) (hu : 0 < used)
include hp hr hu

theorem scaledAbsolute_eq_ediv :
    scaledAbsolute pressure reference used = (2 * pressure * reference + used) / (2 * used) := by
  have product : 0 ≤ 2 * pressure * reference := by positivity
  exact Int.tdiv_eq_ediv_of_nonneg (by omega)

/-- The scaling is at least c exactly from half a unit below c on. -/
theorem le_scaledAbsolute_iff (c : Int) :
    c ≤ scaledAbsolute pressure reference used ↔ (2 * c - 1) * used ≤ 2 * pressure * reference := by
  rw [scaledAbsolute_eq_ediv hp hr hu, Int.le_ediv_iff_mul_le (by omega)]
  constructor <;> intro h <;> linarith

theorem scaledAbsolute_le_iff (c : Int) :
    scaledAbsolute pressure reference used ≤ c ↔ 2 * pressure * reference < (2 * c + 1) * used := by
  rw [← Int.lt_add_one_iff, ← not_le, le_scaledAbsolute_iff hp hr hu, not_le]
  ring_nf

/-- The scaling is the quotient c or c + 1, by the side of a half on which the remainder lies. -/
theorem scaledAbsolute_rounds {q r : Int} (split : pressure * reference = q * used + r) (h0 : 0 ≤ r) (h1 : r < used) :
    (2 * r < used → scaledAbsolute pressure reference used = q)
    ∧ (used ≤ 2 * r → scaledAbsolute pressure reference used = q + 1) := by
  have lower := le_scaledAbsolute_iff hp hr hu
  have upper := scaledAbsolute_le_iff hp hr hu
  exact ⟨fun below => le_antisymm ((upper q).2 (by linarith)) ((lower q).2 (by linarith)),
    fun above => le_antisymm ((upper _).2 (by linarith)) ((lower _).2 (by linarith))⟩

end

theorem scaledAbsolute_range {pressure reference used : Int} (hp : 500 ≤ pressure ∧ pressure ≤ 13850)
    (hr : 253 ≤ reference ∧ reference ≤ 313) (hu : 223 ≤ used ∧ used ≤ 477) :
    265 ≤ scaledAbsolute pressure reference used ∧ scaledAbsolute pressure reference used ≤ 19440 := by
  obtain ⟨hp0, hp1⟩ := hp
  obtain ⟨hr0, hr1⟩ := hr
  have smallest : 500 * 253 ≤ pressure * reference := mul_le_mul hp0 hr0 (by omega) (by omega)
  have largest : pressure * reference ≤ 13850 * 313 := mul_le_mul hp1 hr1 (by omega) (by omega)
  rw [le_scaledAbsolute_iff (by omega) (by omega) (by omega), scaledAbsolute_le_iff (by omega) (by omega) (by omega)]
  constructor <;> linarith

/-! ### P_cold against the gauge pressure (R54) -/

section
variable {gauge ambient used reference : Int} (hg : 0 ≤ gauge) (ha : 0 ≤ ambient) (hu : -273 < used) (hr : -273 < reference)
include hg ha hu hr

/-- A wheel at or above the reference is scaled down. -/
theorem coldPressure_le_gauge (warm : reference ≤ used) : coldPressure gauge ambient used reference ≤ gauge := by
  have scaled : scaledAbsolute (gauge + ambient) (reference + 273) (used + 273) ≤ gauge + ambient := by
    have cooled : (gauge + ambient) * (reference + 273) ≤ (gauge + ambient) * (used + 273) :=
      mul_le_mul_of_nonneg_left (by omega) (by omega)
    rw [scaledAbsolute_le_iff (by omega) (by omega) (by omega)]
    linarith
  unfold coldPressure
  omega

theorem gauge_le_coldPressure (cool : used ≤ reference) : gauge ≤ coldPressure gauge ambient used reference := by
  have scaled : gauge + ambient ≤ scaledAbsolute (gauge + ambient) (reference + 273) (used + 273) := by
    have warmed : (gauge + ambient) * (used + 273) ≤ (gauge + ambient) * (reference + 273) :=
      mul_le_mul_of_nonneg_left (by omega) (by omega)
    rw [le_scaledAbsolute_iff (by omega) (by omega) (by omega)]
    linarith
  unfold coldPressure
  omega

end

/-- Settles O24: each bound is a product against the doubled divisor, and P_cold equals G where the two temperatures meet. -/
theorem coldPressureIsRoundedAndBounded : Obligations.ColdPressureIsRoundedAndBounded := by
  unfold Obligations.ColdPressureIsRoundedAndBounded
  refine ⟨fun pressure reference used hp0 hp1 hr0 hr1 hu0 hu1 => ?_,
    fun gauge ambient used reference hg0 hg1 ha0 ha1 hu0 hu1 hr0 hr1 => ?_⟩
  · refine ⟨scaledAbsolute_eq_ediv (by omega) (by omega) (by omega), fun q r split h0 h1 => ?_,
      scaledAbsolute_range ⟨hp0, hp1⟩ ⟨hr0, hr1⟩ ⟨hu0, hu1⟩⟩
    obtain ⟨below, above⟩ := scaledAbsolute_rounds (by omega) (by omega) (by omega) split h0 h1
    exact ⟨below, above, fun tie => by omega⟩
  · have range := coldPressure_range ⟨hg0, hg1⟩ ⟨ha0, ha1⟩ ⟨hu0, hu1⟩ ⟨hr0, hr1⟩
    have atMost : reference ≤ used → _ := coldPressure_le_gauge hg0 (by omega : 0 ≤ ambient) (by omega) (by omega)
    have atLeast : used ≤ reference → _ := gauge_le_coldPressure hg0 (by omega : 0 ≤ ambient) (by omega) (by omega)
    exact ⟨range.1, range.2, atMost, atLeast, fun same => le_antisymm (atMost same.ge) (atLeast same.le)⟩

/-! ### Permille fractions (R57) -/

theorem permille_eq_ediv {t m : Int} (ht : 0 ≤ t) (hm : 0 ≤ m) : permille t m = t * m / 1000 :=
  Int.tdiv_eq_ediv_of_nonneg (mul_nonneg ht hm)

/-- The whole target is 1000 permille of it. -/
theorem permille_whole (t : Int) : permille t 1000 = t := Int.mul_tdiv_cancel t (by decide)

/-- The fractions of a target in its range lie between those of the least and of the greatest target. -/
theorem permille_range {t m a b : Int} (ht : 2000 ≤ t ∧ t ≤ 12000) (ha : 0 ≤ a) (hm : a ≤ m ∧ m ≤ b) :
    2 * a ≤ permille t m ∧ permille t m ≤ 12 * b := by
  have least : 2000 * a ≤ t * m := mul_le_mul ht.1 hm.1 ha (by omega)
  have greatest : t * m ≤ 12000 * b := mul_le_mul ht.2 hm.2 (by omega) (by omega)
  rw [permille_eq_ediv (by omega) (by omega)]
  omega

/-- Fractions d permille apart are levels at least 2 d apart, for the least target is 2000. -/
theorem permille_gap {t m n d : Int} (ht : 2000 ≤ t) (hm : 0 ≤ m) (hd : 0 ≤ d) (h : m + d ≤ n) :
    permille t m + 2 * d ≤ permille t n := by
  have apart : 2000 * d ≤ t * (n - m) := mul_le_mul ht (by omega) hd (by omega)
  rw [mul_sub] at apart
  rw [permille_eq_ediv (by omega) hm, permille_eq_ediv (by omega) (by omega)]
  omega

/-- Two levels together do not pass the level of the sum: both are truncated. -/
theorem permille_add_le {t m n : Int} (ht : 0 ≤ t) (hm : 0 ≤ m) (hn : 0 ≤ n) :
    permille t m + permille t n ≤ permille t (m + n) := by
  rw [permille_eq_ediv ht hm, permille_eq_ediv ht hn, permille_eq_ediv ht (by omega), mul_add]
  omega

/-! ### The fields of a committed profile -/

theorem Claims.Committed.target {f : Profile} (h : Claims.Committed f) (load : LoadState) :
    2000 ≤ f.target load ∧ f.target load ≤ 12000 := by
  cases load
  · exact h.1 0
  · exact h.1 1

/-- The permille fields that levels are computed from, in their ranges and orders (R60, R65). -/
structure PermilleFields (f : Profile) : Prop where
  lowWarn : 50 ≤ f.lowWarn ∧ f.lowWarn ≤ 400
  lowAlarm : 60 ≤ f.lowAlarm ∧ f.lowAlarm ≤ 600
  highWarn : 50 ≤ f.highWarn ∧ f.highWarn ≤ 400
  hysteresis : 5 ≤ f.hysteresis ∧ f.hysteresis ≤ 100
  imbalance : 20 ≤ f.imbalance ∧ f.imbalance ≤ 300
  side : 20 ≤ f.sideBalance ∧ f.sideBalance ≤ 300
  alarmOrder : f.lowWarn < f.lowAlarm
  hysteresisOrder : f.hysteresis < f.lowWarn

theorem Claims.Committed.permilleFields {f : Profile} (h : Claims.Committed f) : PermilleFields f := by
  obtain ⟨range, alarm, _, hysteresis⟩ := h
  exact ⟨range 2, range 3, range 4, range 5, range 6, range 10, alarm, hysteresis⟩

/-- The ranges of the six levels (R57). -/
structure LevelsInRange (l : Levels) : Prop where
  lowWarn : 1200 ≤ l.lowWarn ∧ l.lowWarn ≤ 11400
  lowAlarm : 800 ≤ l.lowAlarm ∧ l.lowAlarm ≤ 11280
  highWarn : 2100 ≤ l.highWarn ∧ l.highWarn ≤ 16800
  hysteresis : 10 ≤ l.hysteresis ∧ l.hysteresis ≤ 1200
  imbalance : 40 ≤ l.imbalance ∧ l.imbalance ≤ 3600
  side : 40 ≤ l.side ∧ l.side ≤ 3600

theorem Claims.Committed.levels {f : Profile} (h : Claims.Committed f) (load : LoadState) : LevelsInRange (f.levels load) := by
  have t := h.target load
  obtain ⟨lowWarn, lowAlarm, highWarn, hysteresis, imbalance, side, _, _⟩ := h.permilleFields
  exact
    { lowWarn := permille_range (a := 600) (b := 950) t (by decide) (by omega)
      lowAlarm := permille_range (a := 400) (b := 940) t (by decide) (by omega)
      highWarn := permille_range (a := 1050) (b := 1400) t (by decide) (by omega)
      hysteresis := permille_range t (by decide) hysteresis
      imbalance := permille_range t (by decide) imbalance
      side := permille_range t (by decide) side }

/-- Settles O25: every fraction is nonnegative, so truncation is the floor; the ranges are those of the extreme targets. -/
theorem levelsOfAProfile : Obligations.LevelsOfAProfile := by
  unfold Obligations.LevelsOfAProfile
  intro f load committed t
  have target : f.target load = t := by cases load <;> rfl
  clear_value t
  subst target
  obtain ⟨least, _⟩ := committed.target load
  have fields := committed.permilleFields
  obtain ⟨lowWarn, lowAlarm, highWarn, hysteresis, imbalance, side⟩ := committed.levels load
  have level {m : Int} (hm : 0 ≤ m) : permille (f.target load) m = f.target load * m / 1000 := permille_eq_ediv (by omega) hm
  refine ⟨level ?_, level ?_, level ?_, level ?_, level ?_, level ?_, rfl, rfl, rfl, rfl, lowWarn, lowAlarm, highWarn,
    hysteresis, imbalance, side, ?_, ?_, ?_⟩
  case refine_7 => unfold Levels.lowAlarmRelease; omega
  case refine_8 => unfold Levels.lowWarnRelease; omega
  case refine_9 => unfold Levels.highWarnRelease; omega
  all_goals obtain ⟨_, _, _, _, _, _, _, _⟩ := fields; omega

/-- What the orders of the fields give of the levels at a target (R58). -/
theorem Claims.Committed.relations {f : Profile} (h : Claims.Committed f) (load : LoadState) :
    let l := f.levels load
    l.lowAlarm + 2 ≤ l.lowWarn ∧ l.lowWarn + 100 ≤ f.target load ∧ f.target load + 100 ≤ l.highWarn
      ∧ l.lowWarnRelease + 2 ≤ f.target load := by
  obtain ⟨least, _⟩ := h.target load
  obtain ⟨lowWarn, lowAlarm, highWarn, hysteresis, _, _, alarmOrder, hysteresisOrder⟩ := h.permilleFields
  have whole := permille_whole (f.target load)
  have alarm : permille _ (1000 - f.lowAlarm) + 2 * 1 ≤ permille _ (1000 - f.lowWarn) :=
    permille_gap least (by omega) (by decide) (by omega)
  have warn : permille _ (1000 - f.lowWarn) + 2 * 50 ≤ permille _ 1000 := permille_gap least (by omega) (by decide) (by omega)
  have high : permille _ 1000 + 2 * 50 ≤ permille _ (1000 + f.highWarn) := permille_gap least (by omega) (by decide) (by omega)
  have sum : permille _ (1000 - f.lowWarn) + permille _ f.hysteresis ≤ permille _ (1000 - f.lowWarn + f.hysteresis) :=
    permille_add_le (by omega : 0 ≤ f.target load) (by omega) (by omega)
  have release : permille _ (1000 - f.lowWarn + f.hysteresis) + 2 * 1 ≤ permille _ 1000 :=
    permille_gap least (by omega) (by decide) (by omega)
  rw [whole] at warn high release
  exact ⟨alarm, warn, high, (Int.add_le_add_right sum 2).trans release⟩

/-- Settles O26: the relations follow from the orders of the fields; the default profile with one or two fields changed
shows the three that do not hold. -/
theorem levelRelations : Obligations.LevelRelations := by
  unfold Obligations.LevelRelations
  refine ⟨?_, ⟨Profile.default.set 3 101, ?_⟩, ⟨(Profile.default.set 4 50).set 5 60, ?_⟩,
    ⟨(Profile.default.set 5 60).set 6 20, ?_⟩⟩
  · intro f load committed t
    obtain ⟨alarm, warn, high, release⟩ := committed.relations load
    have hysteresis := (committed.levels load).hysteresis
    have target : f.target load = t := by cases load <;> rfl
    refine ⟨by omega, by omega, by omega, ?_, by omega, hysteresis.1⟩
    unfold Levels.lowAlarmRelease Levels.lowWarnRelease
    omega
  all_goals unfold Claims.Committed; decide

end Sys2Proof

/-! ## The steps of an accepted reading at its own wheel -/

namespace Sys2Proof
open Machine

/-! ### Codes and compensation (R81, R82, R47, R48) -/

/-- A record after the first step of a reading (R81, R82). -/
def Machine.WheelRecord.coded (r : WheelRecord) (t : Telegram) : WheelRecord :=
  let unusable := t.pressureCode.toNat = 511 ∧ t.tempCode.toNat = 255
  let battery := r.conditions.put .batteryLow t.batteryLow
  { r with
    pressureCode := some t.pressureCode
    tempCode := some t.tempCode
    batteryLow := t.batteryLow
    faultCode := if unusable then r.faultCode else if r.conditions.sensorFault then none else r.faultCode
    conditions := if unusable then battery else battery.put .sensorFault false }

theorem Machine.State.battery_wheel (s : State) (p : Pos) (low : Bool) :
    (if low then s.raiseCond p .batteryLow else s.clearCond p .batteryLow).wheel p
      = { s.wheel p with conditions := (s.wheel p).conditions.put .batteryLow low } := by
  cases low
  · exact (s.clearCond_wheel p p .batteryLow).trans (if_pos rfl)
  · exact (s.raiseCond_wheel p p .batteryLow).trans (if_pos rfl)

/-- SENSOR_FAULT and the fault code clear together (R81). -/
theorem Machine.State.faultCleared_wheel (s : State) (p : Pos) :
    (if s.active p .sensorFault then (s.clearCond p .sensorFault).modWheel p fun r => { r with faultCode := none } else s).wheel p
      = { s.wheel p with
          faultCode := if (s.wheel p).conditions.sensorFault then none else (s.wheel p).faultCode
          conditions := (s.wheel p).conditions.put .sensorFault false } := by
  have active : s.active p .sensorFault = (s.wheel p).conditions.sensorFault := rfl
  rw [active]
  cases fault : (s.wheel p).conditions.sensorFault
  · rw [Conditions.put_same (k := .sensorFault) fault]
    rfl
  · rw [if_pos rfl, State.modWheel_wheel, if_pos rfl, State.clearCond_wheel, if_pos rfl]
    rfl

theorem Machine.State.readCodes_wheel (s : State) (p : Pos) (t : Telegram) :
    (s.readCodes p t).wheel p = (s.wheel p).coded t := by
  unfold State.readCodes WheelRecord.coded
  by_cases unusable : t.pressureCode.toNat = 511 ∧ t.tempCode.toNat = 255
  · simp only [if_pos unusable]
    rw [State.battery_wheel, State.modWheel_wheel, if_pos rfl]
  · simp only [if_neg unusable]
    rw [State.faultCleared_wheel, State.battery_wheel, State.modWheel_wheel, if_pos rfl]
    rfl

theorem Machine.WheelRecord.coded_has (r : WheelRecord) (t : Telegram) {k : Condition} (battery : k ≠ .batteryLow)
    (fault : k ≠ .sensorFault) : (r.coded t).conditions.has k = r.conditions.has k := by
  unfold WheelRecord.coded
  dsimp only
  split <;> simp [battery.symm, fault.symm]

theorem Machine.WheelRecord.coded_has_battery (r : WheelRecord) (t : Telegram) :
    (r.coded t).conditions.has .batteryLow = t.batteryLow := by
  unfold WheelRecord.coded
  dsimp only
  split <;> simp

theorem Machine.WheelRecord.coded_has_fault (r : WheelRecord) (t : Telegram) : (r.coded t).conditions.has .sensorFault
    = if t.pressureCode.toNat = 511 ∧ t.tempCode.toNat = 255 then r.conditions.has .sensorFault else false := by
  unfold WheelRecord.coded
  dsimp only
  split <;> simp

/-- A record after the compensation of a reading (R47, R48, R54). -/
def Machine.WheelRecord.compensated (r : WheelRecord) (t : Telegram) (cold : Int) : WheelRecord :=
  { r with
    overRange := decide (t.pressureCode.toNat = 511)
    heldTemp := heldAfter t.tempCode r.heldTemp
    pCold := some cold }

theorem Machine.State.compensate_wheel (s : State) (p : Pos) (t : Telegram) :
    (s.compensate p t).wheel p = (s.wheel p).compensated t (s.coldOf p t) :=
  (s.modWheel_wheel p p _).trans (if_pos rfl)

/-- The first step of a reading leaves what the compensation reads. -/
theorem Machine.State.readCodes_coldOf (s : State) (p : Pos) (t u : Telegram) : (s.readCodes p t).coldOf p u = s.coldOf p u := by
  have rest := s.readCodes_rest p t
  have vehicle : (s.readCodes p t).vehicle = s.vehicle := (congrArg State.vehicle rest :)
  have config : (s.readCodes p t).config = s.config := (congrArg State.config rest :)
  unfold State.coldOf
  rw [vehicle, config, State.readCodes_wheel]
  rfl

theorem measuredTemp_absent {tc : BitVec 8} (h : tc.toNat = 255) : measuredTemp tc = none := if_pos h

theorem measuredTemp_present {tc : BitVec 8} (h : tc.toNat ≠ 255) : measuredTemp tc = some ((tc.toNat : Int) - 50) := if_neg h

theorem tempUsed_eq (tc : BitVec 8) (held : Option Int) (reference : Int) :
    tempUsed tc held reference = if tc.toNat = 255 then held.getD reference else (tc.toNat : Int) - 50 := by
  unfold tempUsed
  split_ifs with absent
  · rw [measuredTemp_absent absent]
    cases held <;> rfl
  · rw [measuredTemp_present absent]

theorem heldAfter_eq (tc : BitVec 8) (held : Option Int) :
    heldAfter tc held = if tc.toNat = 255 then held else some ((tc.toNat : Int) - 50) := by
  unfold heldAfter
  split_ifs with absent
  · rw [measuredTemp_absent absent]
  · rw [measuredTemp_present absent]

theorem Machine.State.coldOf_eq (s : State) (p : Pos) (t : Telegram) : s.coldOf p t = Claims.cold s (s.wheel p) t := by
  unfold State.coldOf
  rw [tempUsed_eq]
  rfl

/-! ### Bands (R87, R88) -/

/-- What an exchange makes of one condition depends on that condition alone. -/
theorem Claims.exchange_congr {c d : Conditions} {k : Condition} (h : c.has k = d.has k) (o n : Option Condition) :
    (Claims.exchange o n c).has k = (Claims.exchange o n d).has k := by
  cases o <;> cases n <;> simp [Claims.exchange, h]

theorem Claims.bandMoves_congr {c d : Conditions} {k : Condition} (h : c.has k = d.has k) (b : Band) (zs : List Band) :
    (Claims.bandMoves b zs c).has k = (Claims.bandMoves b zs d).has k := by
  induction zs generalizing b c d with
  | nil => exact h
  | cons z zs ih => exact ih (Claims.exchange_congr h _ _) z

/-- A condition of no pressure band is left by the pressure band step. -/
theorem Machine.WheelRecord.pressed_has (r : WheelRecord) (l : Levels) (n : Option Nat) (cold : Int) {k : Condition}
    (other : ∀ z : Band, z.condition ≠ some k) : (r.pressed l n cold).conditions.has k = r.conditions.has k :=
  Claims.bandMoves_has _ _ _ _ other

/-- A record after the temperature band step (R88). -/
def Machine.WheelRecord.heated (r : WheelRecord) (f : Profile) (tc : BitVec 8) : WheelRecord :=
  let after := Claims.tempAfter f r.tempBand tc
  { r with
    tempBand := after
    conditions := if after = r.tempBand then r.conditions
      else Claims.exchange (Claims.tempCondition r.tempBand) (Claims.tempCondition after) r.conditions }

theorem Claims.tempAfter_absent {tc : BitVec 8} (h : tc.toNat = 255) (f : Profile) (b : TempBand) :
    Claims.tempAfter f b tc = b := if_pos h

theorem Claims.tempAfter_present {tc : BitVec 8} (h : tc.toNat ≠ 255) (f : Profile) (b : TempBand) :
    Claims.tempAfter f b tc = tempStep f.hotWarn f.hotAlarm b ((tc.toNat : Int) - 50) := by
  have rank (z : TempBand) : Claims.tempRank z = z.rank := by cases z <;> rfl
  unfold Claims.tempAfter
  simp only [if_neg h, rank, ite_and]
  unfold tempStep
  change (if b.rank < (matchTemp f.hotWarn f.hotAlarm _).rank then matchTemp f.hotWarn f.hotAlarm _ else _) = _
  cases b with
  | ok => simp [TempBand.rank]
  | hotWarn => rfl
  | hotAlarm => rfl

theorem Machine.State.judgeTemp_wheel (s : State) (p : Pos) (tc : BitVec 8) :
    (s.judgeTemp p tc).wheel p = (s.wheel p).heated (s.profileOfAxle p.axle) tc := by
  unfold State.judgeTemp WheelRecord.heated
  by_cases absent : tc.toNat = 255
  · rw [measuredTemp_absent absent, Claims.tempAfter_absent absent]
    dsimp only
    rw [if_pos rfl]
  · rw [measuredTemp_present absent, Claims.tempAfter_present absent]
    dsimp only
    generalize tempStep _ _ _ _ = m
    by_cases stays : m = (s.wheel p).tempBand
    · rw [if_pos stays, if_pos stays, stays]
    · rw [if_neg stays, if_neg stays, State.raiseOpt_wheel, if_pos rfl, State.modWheel_wheel, if_pos rfl,
        State.clearOpt_wheel, if_pos rfl, TempBand.condition_eq, TempBand.condition_eq]
      rfl

theorem Machine.WheelRecord.heated_has (r : WheelRecord) (f : Profile) (tc : BitVec 8) {k : Condition}
    (other : ∀ z : TempBand, z.condition ≠ some k) : (r.heated f tc).conditions.has k = r.conditions.has k := by
  unfold WheelRecord.heated
  dsimp only
  split
  · rfl
  · rw [← TempBand.condition_eq, ← TempBand.condition_eq, Claims.exchange_has _ _ _ _ (other _) (other _)]

/-! ### Leak (R89, R90) -/

/-- The leak fields and LEAK written, nothing else. -/
def Machine.WheelRecord.leakWritten (r : WheelRecord) (reference : Option (Int × Uptime)) (rate : Option Int) (count : Nat)
    (leak : Bool) : WheelRecord :=
  { r with leakRef := reference, leakRate := rate, leakCount := count, conditions := r.conditions.put .leak leak }

theorem Machine.WheelRecord.leakWritten_has (r : WheelRecord) (reference : Option (Int × Uptime)) (rate : Option Int) (count : Nat)
    (leak : Bool) (k : Condition) :
    (r.leakWritten reference rate count leak).conditions.has k = if .leak = k then leak else r.conditions.has k :=
  Conditions.has_put _ _ _ _

/-- The leak count and LEAK after a computed rate is judged (R90). -/
def leakVerdict (alert : Bool) (limit rate : Int) (count : Nat) (leak : Bool) : Nat × Bool :=
  if limit ≤ rate then
    let n := if alert then 2 else min 2 (count + 1)
    (n, if n = 2 then true else leak)
  else if rate < limit.tdiv 2 then (0, false)
  else (count, leak)

theorem Machine.State.judgeLeak_wheel (s : State) (p : Pos) (alert : Bool) (limit rate : Int) :
    let r := s.wheel p
    let out := leakVerdict alert limit rate r.leakCount r.conditions.leak
    (s.judgeLeak p alert limit rate).wheel p = r.leakWritten r.leakRef r.leakRate out.1 out.2 := by
  dsimp only
  unfold State.judgeLeak leakVerdict
  by_cases reached : limit ≤ rate
  · rw [if_pos reached, if_pos reached]
    generalize (if alert = true then 2 else min 2 ((s.wheel p).leakCount + 1)) = n
    dsimp only
    split
    · rw [State.raiseCond_wheel, if_pos rfl, State.modWheel_wheel, if_pos rfl]
      rfl
    · rw [State.modWheel_wheel, if_pos rfl]
      rfl
  · rw [if_neg reached, if_neg reached]
    split
    · rw [State.clearCond_wheel, if_pos rfl, State.modWheel_wheel, if_pos rfl]
      rfl
    · rfl

/-- A computed rate judged, as the statements name it (R90). -/
theorem leakVerdict_spec (alert : Bool) (limit rate : Int) (count : Nat) (leak : Bool) :
    let out := leakVerdict alert limit rate count leak
    (limit ≤ rate → out.1 = (if alert then 2 else min 2 (count + 1)) ∧ out.2 = if out.1 = 2 then true else leak)
      ∧ (rate < limit → rate < limit.tdiv 2 → out.1 = 0 ∧ out.2 = false)
      ∧ (rate < limit → limit.tdiv 2 ≤ rate → out.1 = count ∧ out.2 = leak) := by
  unfold leakVerdict
  refine ⟨fun reached => ?_, fun short low => ?_, fun short between => ?_⟩
  · rw [if_pos reached]
    exact ⟨rfl, rfl⟩
  · rw [if_neg (not_le.2 short), if_pos low]
    exact ⟨rfl, rfl⟩
  · rw [if_neg (not_le.2 short), if_neg (not_lt.2 between)]
    exact ⟨rfl, rfl⟩

section
variable {r : WheelRecord} (limit : Int) (alert : Bool) (cold : Int) (arrival : Uptime)

/-- A first reading sets the leak reference (R89). -/
theorem Claims.leakJudged_first (ref : r.leakRef = none) : Claims.LeakJudged limit alert cold arrival r
    (r.leakWritten (some (cold, arrival)) r.leakRate r.leakCount r.conditions.leak) :=
  ⟨fun _ => ⟨rfl, rfl, rfl, rfl⟩, by rw [ref]; nofun⟩

/-- A reading within 300 ticks of the reference computes no rate (R89). -/
theorem Claims.leakJudged_early {old : Int} {since : Uptime} (ref : r.leakRef = some (old, since))
    (early : elapsed arrival since < 300) : Claims.LeakJudged limit alert cold arrival r
      (r.leakWritten r.leakRef r.leakRate r.leakCount r.conditions.leak) := by
  refine ⟨by rw [ref]; nofun, fun old' since' same => ?_⟩
  obtain ⟨rfl, rfl⟩ := Prod.mk.inj (Option.some.inj (ref.symm.trans same))
  exact ⟨fun _ => ⟨rfl, rfl, rfl, rfl⟩, fun late => absurd early (not_lt.2 late)⟩

theorem Claims.leakJudged_late {old : Int} {since : Uptime} (ref : r.leakRef = some (old, since))
    (late : ¬ elapsed arrival since < 300) :
    let rate := leakRate old cold (elapsed arrival since)
    let out := leakVerdict alert limit rate r.leakCount r.conditions.leak
    Claims.LeakJudged limit alert cold arrival r
      (r.leakWritten (if 3000 ≤ elapsed arrival since then some (cold, arrival) else some (old, since)) (some rate) out.1 out.2) := by
  refine ⟨by rw [ref]; nofun, fun old' since' same => ?_⟩
  obtain ⟨rfl, rfl⟩ := Prod.mk.inj (Option.some.inj (ref.symm.trans same))
  exact ⟨fun early => absurd early late, fun _ => ⟨rfl, rfl, leakVerdict_spec _ _ _ _ _⟩⟩

end

/-- The leak step writes the leak fields and LEAK as R89 and R90 say, and nothing else of the record. -/
theorem Machine.State.leakStep_wheel (s : State) (p : Pos) (alert : Bool) (cold : Int) (arrival : Uptime) :
    ∃ reference rate count leak,
      (s.leakStep p alert cold arrival).wheel p = (s.wheel p).leakWritten reference rate count leak
      ∧ Claims.LeakJudged (s.profileOfAxle p.axle).leakLimit alert cold arrival (s.wheel p)
          ((s.wheel p).leakWritten reference rate count leak) := by
  unfold State.leakStep
  cases ref : (s.wheel p).leakRef with
  | none => exact ⟨_, _, _, _, (s.modWheel_wheel p p _).trans (if_pos rfl), Claims.leakJudged_first _ _ _ _ ref⟩
  | some reference =>
    obtain ⟨old, since⟩ := reference
    dsimp only
    by_cases early : elapsed arrival since < 300
    · rw [if_pos early]
      exact ⟨_, _, _, _, rfl, Claims.leakJudged_early _ _ _ _ ref early⟩
    · rw [if_neg early]
      refine ⟨_, _, _, _, ?_, Claims.leakJudged_late _ _ _ _ ref early⟩
      have judged := State.judgeLeak_wheel
        (s.modWheel p fun r => { r with leakRate := some (leakRate old cold (elapsed arrival since)) }) p alert
        (s.profileOfAxle p.axle).leakLimit (leakRate old cold (elapsed arrival since))
      rw [State.modWheel_wheel, if_pos rfl] at judged
      split
      · rw [State.modWheel_wheel, if_pos rfl, judged]
        rfl
      · rw [judged, ← ref]
        rfl

/-- The judgement of a leak step reads the leak fields and LEAK alone (R89, R90). -/
theorem Claims.LeakJudged.congr {limit : Int} {alert : Bool} {cold : Int} {arrival : Uptime} {r r' u u' : WheelRecord}
    (h : Claims.LeakJudged limit alert cold arrival r u)
    (before : (r'.leakRef, r'.leakRate, r'.leakCount, r'.conditions.leak)
      = (r.leakRef, r.leakRate, r.leakCount, r.conditions.leak))
    (after : (u'.leakRef, u'.leakRate, u'.leakCount, u'.conditions.leak)
      = (u.leakRef, u.leakRate, u.leakCount, u.conditions.leak)) :
    Claims.LeakJudged limit alert cold arrival r' u' := by
  simp only [Prod.mk.injEq] at before after
  obtain ⟨ref, rate, count, leak⟩ := before
  obtain ⟨ref', rate', count', leak'⟩ := after
  unfold Claims.LeakJudged
  rw [ref, rate, count, leak, ref', rate', count', leak']
  exact h

/-! ### Acceptance (R79, R81) -/

/-- The RSSI fields of an accepted entry are the entry's alone (R79). -/
theorem Claims.acceptedRssi_congr (r u : WheelRecord) (e : QueueEntry) :
    (Claims.acceptedRssi r e).rssi0 = (Claims.acceptedRssi u e).rssi0
      ∧ (Claims.acceptedRssi r e).rssi1 = (Claims.acceptedRssi u e).rssi1 := by
  unfold Claims.acceptedRssi
  cases e.channel <;> exact ⟨rfl, rfl⟩

/-- A record that an entry has made LIVE (R81, step 6). -/
def Machine.WheelRecord.accepted (r : WheelRecord) (e : QueueEntry) (now : Uptime) : WheelRecord :=
  { r with
    state := .live
    stale := false
    lastSequence := some e.telegram.sequence
    lastAccept := some e.arrival
    silenceRef := some now
    rssi0 := (Claims.acceptedRssi r e).rssi0
    rssi1 := (Claims.acceptedRssi r e).rssi1
    conditions := if r.state = .silent then r.conditions.put .silent false else r.conditions }

theorem Machine.State.acceptEntry_wheel (s : State) (p : Pos) (e : QueueEntry) :
    (s.acceptEntry p e).wheel p = (s.wheel p).accepted e s.uptime := by
  have written : (s.modWheel p fun r => r.accept e s.uptime).wheel p = (s.wheel p).accept e s.uptime :=
    (s.modWheel_wheel p p _).trans (if_pos rfl)
  unfold State.acceptEntry WheelRecord.accepted Claims.acceptedRssi
  by_cases silent : (s.wheel p).state = .silent
  · simp only [silent, beq_self_eq_true, if_true]
    rw [State.clearCond_wheel, if_pos rfl, written]
    unfold WheelRecord.accept WheelRecord.acceptRssi
    cases e.channel <;> rfl
  · simp only [beq_false_of_ne silent, if_neg silent, Bool.false_eq_true, if_false]
    rw [written]
    unfold WheelRecord.accept WheelRecord.acceptRssi
    cases e.channel <;> rfl

theorem Machine.WheelRecord.accepted_has (r : WheelRecord) (e : QueueEntry) (now : Uptime) {k : Condition} (h : k ≠ .silent) :
    (r.accepted e now).conditions.has k = r.conditions.has k := by
  unfold WheelRecord.accepted
  dsimp only
  split
  · rw [Conditions.has_put, if_neg h.symm]
  · rfl

end Sys2Proof

/-! ## An accepted reading as a whole -/

namespace Sys2Proof
open Machine Safety

/-! ### The record before its leak step -/

/-- A record after the first five steps of a reading (R81, R85 to R88). -/
def Machine.WheelRecord.banded (r : WheelRecord) (f : Profile) (load : LoadState) (t : Telegram) (cold : Int) : WheelRecord :=
  (((r.coded t).compensated t cold).pressed (f.levels load) (some t.kind.confirmation) cold).heated f t.tempCode

section
variable (r : WheelRecord) (f : Profile) (load : LoadState) (t : Telegram) (cold : Int)

theorem Machine.WheelRecord.banded_has_pressure {k : Condition} (h : k = .lowWarn ∨ k = .lowAlarm ∨ k = .highWarn) :
    (r.banded f load t cold).conditions.has k
      = (Claims.bandMoves r.band (bandStep (f.levels load) (some t.kind.confirmation) r.band r.pending cold).1
          r.conditions).has k := by
  have cool (z : TempBand) : z.condition ≠ some k := by rcases h with rfl | rfl | rfl <;> cases z <;> decide
  have coded : (r.coded t).conditions.has k = r.conditions.has k := by
    apply WheelRecord.coded_has <;> rintro rfl <;> simp at h
  rw [WheelRecord.banded, WheelRecord.heated_has _ _ _ cool]
  exact Claims.bandMoves_congr coded _ _

theorem Machine.WheelRecord.banded_has_temp {k : Condition} (h : k = .hotWarn ∨ k = .hotAlarm) :
    (r.banded f load t cold).conditions.has k
      = if Claims.tempAfter f r.tempBand t.tempCode = r.tempBand then r.conditions.has k
        else (Claims.exchange (Claims.tempCondition r.tempBand)
          (Claims.tempCondition (Claims.tempAfter f r.tempBand t.tempCode)) r.conditions).has k := by
  have plain (z : Band) : z.condition ≠ some k := by rcases h with rfl | rfl <;> cases z <;> decide
  have coded : (r.coded t).conditions.has k = r.conditions.has k := by
    apply WheelRecord.coded_has <;> rintro rfl <;> simp at h
  have pressed := (((r.coded t).compensated t cold).pressed_has (f.levels load) (some t.kind.confirmation) cold plain).trans
    coded
  unfold WheelRecord.banded WheelRecord.heated
  rw [apply_ite (Conditions.has · k), pressed]
  exact ite_congr rfl (fun _ => rfl) fun _ => Claims.exchange_congr pressed _ _

theorem Machine.WheelRecord.banded_has {k : Condition} (other : ¬ k.ofBand) :
    (r.banded f load t cold).conditions.has k = (r.coded t).conditions.has k := by
  rw [WheelRecord.banded, WheelRecord.heated_has _ _ _ fun z h => other (.inr ⟨z, h⟩),
    WheelRecord.pressed_has _ _ _ _ fun z h => other (.inl ⟨z, h⟩)]
  rfl

end

/-! ### The record after the reading -/

/-- IMBALANCE written leaves every other condition. -/
theorem Claims.UpToImbalance.has {u v : WheelRecord} (h : Claims.UpToImbalance u v) {k : Condition} (other : k ≠ .imbalance) :
    u.conditions.has k = v.conditions.has k := by
  obtain ⟨b, rfl⟩ := h
  exact (Conditions.has_put _ _ _ _).trans (if_neg other.symm)

/-- The record after an accepted reading but for IMBALANCE, with the leak fields of its leak step (R81). -/
def Machine.WheelRecord.read (r : WheelRecord) (f : Profile) (load : LoadState) (e : QueueEntry) (now : Uptime) (cold : Int)
    (reference : Option (Int × Uptime)) (rate : Option Int) (count : Nat) (leak : Bool) : WheelRecord :=
  ((r.banded f load e.telegram cold).leakWritten reference rate count leak).accepted e now

/-- A reading up to its leak step (R81). -/
def Machine.State.bandsJudged (s : State) (p : Pos) (t : Telegram) (cold : Int) : State :=
  (((s.readCodes p t).compensate p t).judgePressure p (some t.kind.confirmation) cold).judgeTemp p t.tempCode

theorem Machine.State.bandsJudged_rest (s : State) (p : Pos) (t : Telegram) (cold : Int) :
    (s.bandsJudged p t cold).rest = s.rest := by
  simp [State.bandsJudged]

theorem Machine.State.profileOfAxle_of_rest {s u : State} (h : u.rest = s.rest) (a : Fin 10) :
    u.profileOfAxle a = s.profileOfAxle a := (congrArg (fun x : State => x.profileOfAxle a) h :)

theorem Machine.State.bandsJudged_wheel (s : State) (p : Pos) (t : Telegram) :
    (s.bandsJudged p t (s.coldOf p t)).wheel p
      = (s.wheel p).banded (s.profileOfAxle p.axle) s.vehicle.load t (s.coldOf p t) := by
  have compensated : ((s.readCodes p t).compensate p t).rest = s.rest := s.readCodes_rest p t
  have pressed := (State.judgePressure_rest _ p (some t.kind.confirmation) (s.coldOf p t)).trans compensated
  rw [State.bandsJudged, State.judgeTemp_wheel, State.profileOfAxle_of_rest pressed, State.judgePressure_wheel, if_pos rfl,
    State.levelsOf_of_rest compensated, State.compensate_wheel, State.readCodes_coldOf, State.readCodes_wheel]
  rfl

/-- Up to the imbalance check a reading writes its own record, with the leak fields of its leak step. -/
theorem Machine.State.readingJudged_wheel (s : State) (p : Pos) (e : QueueEntry) :
    let f := s.profileOfAxle p.axle
    let cold := Claims.cold s (s.wheel p) e.telegram
    let banded := (s.wheel p).banded f s.vehicle.load e.telegram cold
    ∃ reference rate count leak,
      (s.readingJudged p e).wheel p = (s.wheel p).read f s.vehicle.load e s.uptime cold reference rate count leak
      ∧ Claims.LeakJudged f.leakLimit (e.telegram.kind == .alert) cold e.arrival banded
          (banded.leakWritten reference rate count leak) := by
  dsimp only
  rw [← State.coldOf_eq, ← State.bandsJudged_wheel]
  have rest := s.bandsJudged_rest p e.telegram (s.coldOf p e.telegram)
  have leaked := (State.leakStep_rest _ p (e.telegram.kind == .alert) (s.coldOf p e.telegram) e.arrival).trans rest
  obtain ⟨reference, rate, count, leak, wheel, judged⟩ := State.leakStep_wheel
    (s.bandsJudged p e.telegram (s.coldOf p e.telegram)) p (e.telegram.kind == .alert) (s.coldOf p e.telegram) e.arrival
  rw [State.profileOfAxle_of_rest rest] at judged
  refine ⟨reference, rate, count, leak, ?_, judged⟩
  rw [WheelRecord.read, ← State.bandsJudged_wheel, ← wheel, ← State.uptime_of_rest leaked]
  exact State.acceptEntry_wheel _ p e

section
variable (r : WheelRecord) (f : Profile) (load : LoadState) (e : QueueEntry) (now : Uptime) (cold : Int)
  (reference : Option (Int × Uptime)) (rate : Option Int) (count : Nat) (leak : Bool)

/-- Acceptance and the leak step leave a condition that is neither SILENT nor LEAK. -/
theorem Machine.WheelRecord.read_has {k : Condition} (silent : k ≠ .silent) (notLeak : k ≠ .leak) :
    (r.read f load e now cold reference rate count leak).conditions.has k
      = (r.banded f load e.telegram cold).conditions.has k := by
  rw [WheelRecord.read, WheelRecord.accepted_has _ _ _ silent, WheelRecord.leakWritten_has, if_neg notLeak.symm]

theorem Machine.WheelRecord.read_has_pressure {k : Condition} (h : k = .lowWarn ∨ k = .lowAlarm ∨ k = .highWarn) :
    (r.read f load e now cold reference rate count leak).conditions.has k
      = (Claims.bandMoves r.band (bandStep (f.levels load) (some e.telegram.kind.confirmation) r.band r.pending cold).1
          r.conditions).has k := by
  rw [WheelRecord.read_has, WheelRecord.banded_has_pressure _ _ _ _ _ h] <;> rintro rfl <;> simp at h

theorem Machine.WheelRecord.read_has_temp {k : Condition} (h : k = .hotWarn ∨ k = .hotAlarm) :
    (r.read f load e now cold reference rate count leak).conditions.has k
      = if Claims.tempAfter f r.tempBand e.telegram.tempCode = r.tempBand then r.conditions.has k
        else (Claims.exchange (Claims.tempCondition r.tempBand)
          (Claims.tempCondition (Claims.tempAfter f r.tempBand e.telegram.tempCode)) r.conditions).has k := by
  rw [WheelRecord.read_has, WheelRecord.banded_has_temp _ _ _ _ _ h] <;> rintro rfl <;> simp at h

theorem Machine.WheelRecord.read_has_battery :
    (r.read f load e now cold reference rate count leak).conditions.has .batteryLow = e.telegram.batteryLow := by
  rw [WheelRecord.read_has _ _ _ _ _ _ _ _ _ _ (by decide) (by decide), WheelRecord.banded_has _ _ _ _ _ (not_ofBand (by decide)),
    WheelRecord.coded_has_battery]

theorem Machine.WheelRecord.read_has_fault :
    (r.read f load e now cold reference rate count leak).conditions.has .sensorFault
      = if e.telegram.pressureCode.toNat = 511 ∧ e.telegram.tempCode.toNat = 255 then r.conditions.has .sensorFault
        else false := by
  rw [WheelRecord.read_has _ _ _ _ _ _ _ _ _ _ (by decide) (by decide), WheelRecord.banded_has _ _ _ _ _ (not_ofBand (by decide)),
    WheelRecord.coded_has_fault]

theorem Machine.WheelRecord.read_has_leak :
    (r.read f load e now cold reference rate count leak).conditions.has .leak = leak := by
  rw [WheelRecord.read, WheelRecord.accepted_has _ _ _ (by decide), WheelRecord.leakWritten_has, if_pos rfl]

theorem Machine.WheelRecord.read_has_silent :
    (r.read f load e now cold reference rate count leak).conditions.has .silent
      = if r.state = .silent then false else r.conditions.has .silent := by
  have banded : ((r.banded f load e.telegram cold).leakWritten reference rate count leak).conditions.has .silent
      = r.conditions.has .silent := by
    rw [WheelRecord.leakWritten_has, if_neg (by decide), WheelRecord.banded_has _ _ _ _ _ (not_ofBand (by decide)),
      WheelRecord.coded_has _ _ (by decide) (by decide)]
  unfold WheelRecord.read WheelRecord.accepted
  rw [apply_ite (Conditions.has · .silent), banded, Conditions.has_put, if_pos rfl]
  rfl

theorem Machine.WheelRecord.read_rssi :
    (r.read f load e now cold reference rate count leak).rssi0 = (Claims.acceptedRssi r e).rssi0
      ∧ (r.read f load e now cold reference rate count leak).rssi1 = (Claims.acceptedRssi r e).rssi1 :=
  Claims.acceptedRssi_congr _ r e

/-- The other steps of a reading and its imbalance check leave the leak fields and LEAK. -/
theorem Claims.LeakJudged.read {limit : Int} {alert : Bool} {arrival : Uptime} {u : WheelRecord}
    (h : Claims.LeakJudged limit alert cold arrival (r.banded f load e.telegram cold)
      ((r.banded f load e.telegram cold).leakWritten reference rate count leak))
    (own : Claims.UpToImbalance u (r.read f load e now cold reference rate count leak)) :
    Claims.LeakJudged limit alert cold arrival r u := by
  have before : r.conditions.leak = (r.banded f load e.telegram cold).conditions.leak :=
    ((r.banded_has f load e.telegram cold (not_ofBand (k := .leak) (by decide))).trans
      (r.coded_has e.telegram (by decide) (by decide))).symm
  have after : u.conditions.leak = leak := (own.has (by decide)).trans (r.read_has_leak _ _ _ _ _ _ _ _ _)
  obtain ⟨b, rfl⟩ := own
  refine h.congr ?_ ?_
  · rw [before]
    rfl
  · rw [after]
    rfl

end

/-! ### The imbalance check (R91) -/

theorem Machine.State.checkPair_active (s : State) (p q : Pos) :
    (s.checkPair p).active q .imbalance
      = if q = p.pairLow ∨ q = p.pairHigh then (s.pairVerdict p).getD (s.active q .imbalance) else s.active q .imbalance := by
  unfold State.active
  rw [State.checkPair_wheel]
  split
  · exact WheelRecord.withImbalance_has _ _
  · rfl

theorem Machine.State.checkPair_livePressure (s : State) (p q : Pos) :
    ((s.checkPair p).wheel q).livePressure = (s.wheel q).livePressure := by
  rw [State.checkPair_wheel]
  split
  · exact WheelRecord.withImbalance_livePressure _ _
  · rfl

/-- The verdict on two LIVE wheels of a pair, by the difference of their pressures. -/
theorem Machine.State.pairVerdict_of_live {s : State} {p : Pos} {x y : Int} (dual : (s.axle p.axle).kind = .dual)
    (low : (s.wheel p.pairLow).livePressure = some x) (high : (s.wheel p.pairHigh).livePressure = some y) :
    s.pairVerdict p = if (s.levelsOf p.axle).imbalance < |x - y| then some true
      else if |x - y| ≤ (s.levelsOf p.axle).imbalanceRelease then some false else none := by
  unfold State.pairVerdict
  rw [if_pos dual, low, high]
  simp only [Int.natCast_natAbs]

/-- An imbalance check judges the pair of its position as R91 says. -/
theorem pairJudged_checkPair (s : State) (p : Pos) : Claims.PairJudged s (s.checkPair p) p := by
  have axle := State.axle_of_rest (s.checkPair_rest p) p.axle
  have levels := State.levelsOf_of_rest (s.checkPair_rest p) p.axle
  have left (none : s.pairVerdict p = none) (q : Pos) : (s.checkPair p).active q .imbalance = s.active q .imbalance := by
    rw [State.checkPair_active, none]
    exact ite_self _
  have both {b : Bool} (verdict : s.pairVerdict p = some b) :
      (s.checkPair p).active p.pairLow .imbalance = b ∧ (s.checkPair p).active p.pairHigh .imbalance = b := by
    rw [State.checkPair_active, State.checkPair_active, if_pos (.inl rfl), if_pos (.inr rfl), verdict]
    exact ⟨rfl, rfl⟩
  unfold Claims.PairJudged
  simp only [not_liveAt_iff]
  simp only [liveAt_iff, State.checkPair_livePressure, axle, levels]
  refine ⟨fun q low high => ?_, fun idle => left (State.pairVerdict_idle idle), fun x y dual low high => ?_⟩
  · rw [State.checkPair_active, if_neg (not_or.2 ⟨low, high⟩)]
  · have verdict := State.pairVerdict_of_live dual low high
    refine ⟨fun beyond => both ?_, fun within under => both ?_, fun within between => left ?_⟩
    · rw [verdict, if_pos beyond]
    · rw [verdict, if_neg (not_lt.2 within)]
      exact if_pos under
    · rw [verdict, if_neg (not_lt.2 within)]
      exact if_neg (not_le.2 between)

/-- The judgement of a pair reads IMBALANCE before, and what is not judged but by records after. -/
theorem Claims.PairJudged.congr {s s' t t' : State} {p : Pos} (h : Claims.PairJudged s t p)
    (before : ∀ q, s'.active q .imbalance = s.active q .imbalance) (rest : t'.rest = t.rest) (wheels : t'.wheels = t.wheels) :
    Claims.PairJudged s' t' p := by
  have wheel := State.wheel_of_wheels wheels
  have active (q : Pos) : t'.active q .imbalance = t.active q .imbalance := by rw [State.active, State.active, wheel]
  have live (q : Pos) (c : Int) : Claims.LiveAt t' q c ↔ Claims.LiveAt t q c := by rw [Claims.LiveAt, Claims.LiveAt, wheel]
  unfold Claims.PairJudged
  simp only [before, active, live, State.axle_of_rest rest, State.levelsOf_of_rest rest]
  exact h

/-! ### The taking of a reading -/

/-- The reading of an accepted entry that is no FAULT (R77, R81). -/
theorem Machine.State.readEntry_reading {s : State} {e : QueueEntry} {p : Pos} (found : s.lookup e.telegram.id = some p)
    (accepts : Claims.Accepts (s.wheel p) e) (kind : e.telegram.kind ≠ .fault) :
    s.readEntry e = (s.readingJudged p e).checkPair p := by
  rw [State.readEntry, found]
  dsimp only
  rw [State.applyEntry, if_pos ((accepts_iff _ _).2 accepts), if_neg kind, State.acceptReading_eq]

/-- The record of a reading: IMBALANCE beyond its steps. -/
theorem Machine.State.reading_own (s : State) (p : Pos) (e : QueueEntry) :
    Claims.UpToImbalance (((s.readingJudged p e).checkPair p).wheel p) ((s.readingJudged p e).wheel p) := by
  rw [State.checkPair_wheel, if_pos p.eq_pairLow_or_pairHigh]
  exact upToImbalance_verdict _ _

/-- The other records after a reading: IMBALANCE of the pair at most. -/
theorem Machine.State.reading_elsewhere (s : State) {p q : Pos} (e : QueueEntry) (ne : q ≠ p) :
    ((s.readingJudged p e).checkPair p).wheel q
      = if q = p.pairLow ∨ q = p.pairHigh then (s.wheel q).withImbalance ((s.readingJudged p e).pairVerdict p)
        else s.wheel q := by
  rw [State.checkPair_wheel, (s.readingJudged_stages p e).elsewhere ne.symm]

/-- What judging by an accepted reading leaves: its record written by the steps of R81, its pair judged. -/
theorem Machine.State.judgedBy_reading {s : State} {e : QueueEntry} {p : Pos} (found : s.lookup e.telegram.id = some p)
    (accepts : Claims.Accepts (s.wheel p) e) (kind : e.telegram.kind ≠ .fault) :
    let r := s.wheel p
    let f := s.profileOfAxle p.axle
    let cold := Claims.cold s r e.telegram
    let t := s.judgedBy e
    Claims.PairJudged s t p
      ∧ (∀ q, q.axle ≠ p.axle → t.wheel q = s.wheel q)
      ∧ (∀ q, q ≠ p → Claims.UpToImbalance (t.wheel q) (s.wheel q))
      ∧ Claims.LeakJudged f.leakLimit (e.telegram.kind == .alert) cold e.arrival r (t.wheel p)
      ∧ ∃ reference rate count leak,
          Claims.UpToImbalance (t.wheel p) (r.read f s.vehicle.load e s.uptime cold reference rate count leak) := by
  have wheels := s.judgedBy_wheels e
  rw [State.readEntry_reading found accepts kind] at wheels
  have wheel := State.wheel_of_wheels wheels
  have stages := s.readingJudged_stages p e
  obtain ⟨reference, rate, count, leak, read, judged⟩ := s.readingJudged_wheel p e
  have own := s.reading_own p e
  rw [← wheel, read] at own
  refine ⟨?_, fun q other => ?_, fun q ne => ?_, judged.read _ _ _ _ _ _ _ _ _ _ own, reference, rate, count, leak, own⟩
  · exact (pairJudged_checkPair _ p).congr (fun q => (stages.imbalance q).symm)
      ((s.judgedBy_judges e).rest.trans ((State.checkPair_rest _ p).trans stages.rest).symm) wheels
  · rw [wheel, State.reading_elsewhere s e (by rintro rfl; exact other rfl),
      if_neg (by rintro (rfl | rfl) <;> exact other rfl)]
  · rw [wheel, State.reading_elsewhere s e ne]
    split
    · exact upToImbalance_verdict _ _
    · exact upToImbalance_refl _

theorem confirmation_eq (k : TelegramKind) : k.confirmation = if k = .alert then 1 else 2 := by cases k <;> rfl

/-- Settles O23: the record is the composition of the steps' rules, and the imbalance check follows on it. -/
theorem readingUpdatesTheRecord : Obligations.ReadingUpdatesTheRecord := by
  unfold Obligations.ReadingUpdatesTheRecord
  intro s e rest p h unmarked found kind unsent accepts
  dsimp only
  rw [← confirmation_eq]
  have taken := exec_entryTaken h
  rw [State.counted_unmarked _ unmarked, State.handled_unsent (s := { s with queue := rest }) unsent] at taken
  have frame := (State.judgedBy_judges { s with queue := rest } e).judgedFrom
  obtain ⟨pair, axle, others, leaked, reference, rate, count, leak, own⟩ :=
    State.judgedBy_reading (s := { s with queue := rest }) found accepts kind
  generalize State.judgedBy { s with queue := rest } e = t at *
  have written {k : Condition} (other : k ≠ .imbalance) : t.active p k = _ := own.has other
  have silence := (written (by decide)).trans (WheelRecord.read_has_silent ..)
  have fault := (written (by decide)).trans (WheelRecord.read_has_fault ..)
  have rssi := (s.wheel p).read_rssi (s.profileOfAxle p.axle) s.vehicle.load e s.uptime
    (Claims.cold s (s.wheel p) e.telegram) reference rate count leak
  refine ⟨t, taken, frame, axle, others, ?_⟩
  obtain ⟨b, own⟩ := own
  rw [own] at leaked ⊢
  refine ⟨rfl, rfl, rfl, rfl, rfl, rfl, rfl, rfl, heldAfter_eq _ _, rfl, rssi.1, rssi.2, rfl, rfl,
    fun k pressure => (written ?_).trans (WheelRecord.read_has_pressure _ _ _ _ _ _ _ _ _ _ pressure), rfl,
    fun k temp => (written ?_).trans (WheelRecord.read_has_temp _ _ _ _ _ _ _ _ _ _ temp), leaked, pair, rfl,
    (written (by decide)).trans (WheelRecord.read_has_battery ..),
    fun silent => silence.trans (if_pos silent), fun heard => silence.trans (if_neg heard),
    fun unusable => ⟨fault.trans (if_pos unusable), if_pos unusable⟩,
    fun usable => ⟨fault.trans (if_neg usable), if_neg usable⟩⟩
  · rintro rfl
    simp at pressure
  · rintro rfl
    simp at temp

end Sys2Proof

/-! ## Profile staging and commit -/

namespace Sys2Proof
open Machine Safety

/-! ### A target change of several axles (R96) -/

theorem Machine.State.reevaluateAxle_livePressure (s : State) (a : Fin 10) (q : Pos) :
    ((s.reevaluateAxle a).wheel q).livePressure = (s.wheel q).livePressure := by
  rw [State.reevaluateAxle_wheel]
  split
  · rw [WheelRecord.withImbalance_livePressure, WheelRecord.reevaluated_livePressure]
  · rfl

/-- Axles re-evaluated in turn, each once: none reads what another has written, since levels and live pressures stay. -/
theorem Machine.State.reevaluateAxles_wheel (s : State) {as : List (Fin 10)} (once : as.Nodup) (q : Pos) :
    (as.foldl State.reevaluateAxle s).wheel q
      = if q.axle ∈ as then ((s.wheel q).reevaluated (s.levelsOf q.axle)).withImbalance (s.pairVerdict q)
        else s.wheel q := by
  induction as generalizing s with
  | nil => rfl
  | cons a as ih =>
    obtain ⟨out, rest⟩ := List.nodup_cons.1 once
    have levels := State.levelsOf_of_rest (s.reevaluateAxle_rest a) q.axle
    have verdict : (s.reevaluateAxle a).pairVerdict q = s.pairVerdict q :=
      State.pairVerdict_congr (s.reevaluateAxle_rest a) (s.reevaluateAxle_livePressure a)
    rw [List.foldl_cons, ih _ rest, levels, verdict, State.reevaluateAxle_wheel]
    by_cases here : q.axle = a
    · rw [if_neg (here ▸ out), if_pos here, if_pos (here ▸ List.mem_cons_self)]
    · simp only [List.mem_cons, here, false_or, if_false]

theorem Machine.State.targetChange_wheel (s : State) (f : Fin 10 → Bool) (q : Pos) :
    (s.targetChange f).wheel q
      = if (s.axle q.axle).present = true ∧ f q.axle = true
        then ((s.wheel q).reevaluated (s.levelsOf q.axle)).withImbalance (s.pairVerdict q) else s.wheel q := by
  unfold State.targetChange
  rw [State.reevaluateAxles_wheel s ((List.nodup_finRange 10).filter _)]
  simp only [List.mem_filter, List.mem_finRange, true_and, Bool.and_eq_true]

theorem Machine.State.targetChange_reevaluated (s : State) (f : Fin 10 → Bool) :
    Claims.Reevaluated s (s.targetChange f) (fun a => (s.axle a).present = true ∧ f a = true) :=
  Claims.reevaluated_of_wheel (State.levelsOf_of_rest (s.targetChange_rest f)) (State.axle_of_rest (s.targetChange_rest f))
    (fun q affected => (s.targetChange_wheel f q).trans (if_pos affected))
    (fun q away => (s.targetChange_wheel f q).trans (if_neg away))

/-! ### The staging copy (R62) -/

theorem Machine.State.Judges.setStaging {t u : State} (h : t.Judges u) (q : PortId) (g : Option Staging) :
    (t.setStaging q g).Judges (u.setStaging q g) := by
  refine ⟨?_, ?_⟩
  · have same := congrArg (fun x : State => x.setStaging q g) h.rest
    cases q <;> exact same
  · obtain ⟨m, judged, flags⟩ := h.grown
    refine ⟨m, judged, fun r => ?_⟩
    simp only [State.setStaging, State.setPort_port]
    split
    · exact flags q
    · exact flags r

/-- The staging copy of a port is written before or after a flag alike. -/
theorem setStaging_setFlagBoth (s : State) (e : EventFlag) (q : PortId) (g : Option Staging) :
    (s.setFlagBoth e).setStaging q g = (s.setStaging q g).setFlagBoth e := by
  cases q <;> rfl

theorem Machine.State.loadStaging_wheels (s : State) (q : PortId) (n : Fin 4) (f : Fin 11) :
    (s.loadStaging q n f).wheels = s.wheels := State.setPort_wheels s q _

theorem Machine.State.loadStaging_axle (s : State) (q : PortId) (n : Fin 4) (f : Fin 11) (a : Fin 10) :
    (s.loadStaging q n f).axle a = s.axle a := State.setPort_axle s q _ a

/-- No level reads a port (R57). -/
theorem Machine.State.setPort_levelsOf (s : State) (q : PortId) (x : Port) (a : Fin 10) :
    (s.setPort q x).levelsOf a = s.levelsOf a := by
  cases q <;> rfl

theorem Machine.State.loadStaging_levelsOf (s : State) (q : PortId) (n : Fin 4) (f : Fin 11) (a : Fin 10) :
    (s.loadStaging q n f).levelsOf a = s.levelsOf a := State.setPort_levelsOf s q _ a

theorem Machine.State.answer_levelsOf (s : State) (q : PortId) (st : Status) (bs : List Byte) (a : Fin 10) :
    (s.answer q st bs).levelsOf a = s.levelsOf a := State.setPort_levelsOf s q _ a

/-! ### A taken commit (R66, R68) -/

/-- The committed profile replaced and the generation advanced, no wheel judged yet. -/
def Machine.State.withProfile (s : State) (n : Fin 4) (c : Profile) : State :=
  { s with profiles := s.profiles.set n.val c n.isLt, generation := s.generation + 1 }

theorem Machine.State.commitProfile_judges (s : State) (n : Fin 4) (c : Profile) :
    (s.commitProfile n c).Judges ((s.withProfile n c).setFlagBoth .image) :=
  ((State.targetChange_judges _ _).noteWheels _).evaluate

theorem Machine.State.commitProfile_reevaluated (s : State) (n : Fin 4) (c : Profile) :
    Claims.Reevaluated s (s.commitProfile n c) (fun a => (s.axle a).present = true ∧ (s.axle a).profile = n) := by
  have changed := ((s.withProfile n c).setFlagBoth .image).targetChange_reevaluated fun a => (s.axle a).profile == n
  have judged : (s.commitProfile n c).Judges _ := ((State.Judges.refl _).noteWheels _).evaluate
  simp only [beq_iff_eq] at changed
  refine (changed.of_wheels rfl).of_wheels_after ?_ (State.axle_of_rest judged.rest) (State.levelsOf_of_rest judged.rest)
  rw [State.commitProfile, State.evaluate_wheels, State.noteWheels_wheels]
  rfl

/-! ### The cases of PROFILE_WRITE (R64 to R67) -/

theorem failedBits_eq (p : Profile) :
    p.failedBits = BitVec.ofNat 8 ((if p[3] ≤ p[2] then 1 else 0) + (if p[9] ≤ p[8] then 2 else 0)
      + (if p[2] ≤ p[5] then 4 else 0)) := by
  have weigh (c : Prop) [Decidable c] (k : Nat) : k * (decide c).toNat = if c then k else 0 := by
    by_cases h : c <;> simp [h]
  have one (c : Prop) [Decidable c] : (decide c).toNat = if c then 1 else 0 := by
    rw [← weigh, Nat.one_mul]
  unfold Profile.failedBits Profile.alarmOrderFails Profile.hotOrderFails Profile.hysteresisOrderFails
  rw [weigh, weigh, one]
  rfl

theorem not_passesChecks {p : Profile} (h : p[3] ≤ p[2] ∨ p[9] ≤ p[8] ∨ p[2] ≤ p[5]) : ¬ p.passesChecks = true := by
  rw [passesChecks_iff]
  omega

/-- Before the last field the write goes to the copy and the pointer advances (R64). -/
theorem Machine.State.writeStaged_advances (s : State) (q : PortId) (p : Fin 4) {f f' : Fin 11} (copy : Profile) (x : Int)
    (follows : f'.val = f.val + 1) :
    s.writeStaged q ⟨p, f, copy⟩ x
      = (s.setStaging q (some ⟨p, f', copy.setField f (clampField f x)⟩)).answer q .ok
        (signed2 (clampField f x) ++ [byte p.val, byte f'.val, 0]) := by
  have inner : f ≠ 10 := by rintro rfl; exact absurd f'.isLt (by rw [follows]; decide)
  have advanced : nextField f = f' := Fin.ext (by simp only [nextField]; omega)
  unfold State.writeStaged
  rw [if_pos inner]
  simp only [advanced, writeReply, pointerBytes, List.append_assoc, List.cons_append, List.nil_append]

/-- A commit that fails a check keeps the copy and the pointer (R65, R67). -/
theorem Machine.State.writeStaged_refused (s : State) (q : PortId) (p : Fin 4) (copy : Profile) (x : Int)
    (fails : ¬ (copy.setField 10 (clampField 10 x)).passesChecks = true) :
    s.writeStaged q ⟨p, 10, copy⟩ x
      = (s.setStaging q (some ⟨p, 10, copy.setField 10 (clampField 10 x)⟩)).answer q .badProfile
        (signed2 (clampField 10 x) ++ [byte p.val, 0x0A, (copy.setField 10 (clampField 10 x)).failedBits]) := by
  unfold State.writeStaged
  rw [if_neg (not_not.2 rfl), if_neg fails]
  rfl

/-- A commit that passes its checks: the profile taken, then the copy of the next profile loaded (R66). -/
theorem Machine.State.writeStaged_commits (s : State) (q : PortId) (p : Fin 4) (copy : Profile) (x : Int)
    (passes : (copy.setField 10 (clampField 10 x)).passesChecks = true) :
    s.writeStaged q ⟨p, 10, copy⟩ x
      = ((s.commitProfile p (copy.setField 10 (clampField 10 x))).loadStaging q (nextProfile p) 0).answer q .ok
        (signed2 (clampField 10 x) ++ [byte (nextProfile p).val, 0, 0]) := by
  unfold State.writeStaged
  rw [if_neg (not_not.2 rfl), if_pos passes]
  cases q <;> rfl

/-- What the statement asks of a taken commit (R66, R68). -/
theorem commit_taken (s : State) (q : PortId) (p p' : Fin 4) (c : Profile) (bytes : List Byte) :
    let t := ((s.commitProfile p c).loadStaging q p' 0).answer q .ok bytes
    let profiles := s.profiles.set p.val c p.isLt
    JudgedFrom t ((State.setFlagBoth
        (State.setPort { s with profiles := profiles, generation := s.generation + 1 } q
          { s.port q with staging := some ⟨p', 0, profiles[p']⟩ }) .image).answer q .ok bytes)
    ∧ Claims.Reevaluated s t (fun a => (s.axle a).present = true ∧ (s.axle a).profile = p) := by
  intro t profiles
  have judges := s.commitProfile_judges p c
  have committed : (s.commitProfile p c).profiles = profiles := (congrArg State.profiles judges.rest :)
  refine ⟨?_, (s.commitProfile_reevaluated p c).of_wheels_after ?_ ?_ ?_⟩
  · have staged := judges.setStaging q (some ⟨p', 0, profiles[p']⟩)
    rw [setStaging_setFlagBoth] at staged
    have loaded : (s.commitProfile p c).loadStaging q p' 0
        = (s.commitProfile p c).setStaging q (some ⟨p', 0, profiles[p']⟩) := by
      unfold State.loadStaging
      rw [committed]
    have written : (s.withProfile p c).port q = s.port q := by cases q <;> rfl
    have framed := staged.answer q .ok bytes
    rw [← loaded, State.setStaging, written] at framed
    exact framed.judgedFrom
  · exact (State.answer_wheels _ q _ _).trans (State.loadStaging_wheels _ q p' 0)
  · exact fun a => (State.answer_axle _ q _ _ a).trans (State.loadStaging_axle _ q p' 0 a)
  · exact fun a => (State.answer_levelsOf _ q _ _ a).trans (State.loadStaging_levelsOf _ q p' 0 a)

/-! ### The statement -/

theorem fieldOf_eq_some {n : Nat} {f : Fin 11} : fieldOf n = some f ↔ n = f.val := by
  unfold fieldOf
  split
  · simp [Fin.ext_iff]
  · next h => simp; omega

/-- A byte is named by its number. -/
theorem byte_of_toNat {b : Byte} {n : Nat} (h : b.toNat = n) : byte n = b := by
  rw [← h, byte, BitVec.ofNat_toNat, BitVec.setWidth_eq]

/-- PROFILE_SELECT outside the load, with parameters in range (R63). -/
theorem exec_profileSelect {s : State} {q : PortId} (takes : Claims.Takes s q) (l : s.loading = false) {pf fd : Byte}
    {p : Fin 4} {f : Fin 11} (hp : pf.toNat = p.val) (hf : fd.toNat = f.val) :
    exec (.profileSelect q pf fd) s = .next ((s.loadStaging q p f).answer q .ok ([pf, fd] ++ signed2 (s.profiles[p])[f])) := by
  refine (next_loaded takes l _).trans ?_
  rw [profileOf, slotOf_eq_some.2 hp, fieldOf_eq_some.2 hf]
  dsimp only
  rw [byte_of_toNat hp, byte_of_toNat hf]

theorem exec_profileSelect_range {s : State} {q : PortId} (takes : Claims.Takes s q) (l : s.loading = false) {pf fd : Byte}
    (beyond : 3 < pf.toNat ∨ 10 < fd.toNat) : exec (.profileSelect q pf fd) s = .next (s.answer q .range []) := by
  refine (next_loaded takes l _).trans ?_
  split
  · next p f hp hf =>
    have := slotOf_eq_some.1 hp
    have := fieldOf_eq_some.1 hf
    omega
  · rfl

/-- PROFILE_WRITE outside the load at a staged field (R64). -/
theorem exec_profileWrite {s : State} {q : PortId} (takes : Claims.Takes s q) (l : s.loading = false) {g : Staging}
    (staged : (s.port q).staging = some g) (value : Half) :
    exec (.profileWrite q value) s = .next (s.writeStaged q g value.toInt) := by
  refine (next_loaded takes l _).trans ?_
  rw [staged]

/-- Settles O49: PROFILE_WRITE by its three cases, the taken commit by `commit_taken`. -/
theorem stagingAndCommit : Obligations.StagingAndCommit := by
  unfold Obligations.StagingAndCommit
  refine ⟨fun s q pf fd takes => ⟨fun l => next_busy takes l _, fun l => exec_profileSelect_range takes l,
    fun p f l hp hf => exec_profileSelect takes l hp hf⟩, fun s q value takes => ?_⟩
  dsimp only
  refine ⟨fun l => next_busy takes l _, fun l unstaged => ?_, fun p f copy l staged => ?_⟩
  · refine (next_loaded takes l _).trans ?_
    rw [unstaged]
    rfl
  rw [exec_profileWrite takes l staged, ← clampField_eq_nearest]
  refine ⟨fun f' follows => ?_, fun last fails => ?_, fun p' last alarm hot hysteresis follows => ?_⟩
  · rw [s.writeStaged_advances q p copy _ follows]
    rfl
  · obtain rfl : f = 10 := Fin.ext last
    rw [s.writeStaged_refused q p copy _ (not_passesChecks fails), failedBits_eq]
    rfl
  · obtain rfl : f = 10 := Fin.ext last
    obtain rfl : p' = nextProfile p := Fin.ext follows
    have passes := (passesChecks_iff (copy.setField 10 (clampField 10 value.toInt))).2
      ⟨not_le.1 alarm, not_le.1 hot, not_le.1 hysteresis⟩
    exact ⟨_, congrArg _ (s.writeStaged_commits q p copy _ passes), commit_taken s q p _ _ _⟩

end Sys2Proof

/-! ## The pressure band step, case by case -/

namespace Sys2Proof
open Machine Safety

/-! ### The tests of R83 and R85 as the statements name them -/

theorem Machine.Band.rank_eq (b : Band) : Claims.rank b = b.rank := by cases b <;> rfl

theorem Machine.Band.side_eq (b : Band) : Claims.sideOf b = b.side := by cases b <;> rfl

theorem Machine.Band.nearerOk_eq (x y : Band) : Claims.nearer x y = x.nearerOk y := by
  rw [Claims.nearer, Band.rank_eq, Band.rank_eq]
  rfl

theorem Machine.Band.betweenOk_iff (z b : Band) :
    z.betweenOk b = true ↔ (b.rank < z.rank ∧ z.rank < 0) ∨ (0 < z.rank ∧ z.rank < b.rank) := by
  simp [Band.betweenOk]

/-- A zone across OK lies on another side than the band, and neither is OK. -/
theorem Machine.Band.otherSide_iff (z b : Band) : z.otherSide b = true ↔ b ≠ .ok ∧ z ≠ .ok ∧ z.side ≠ b.side := by
  cases z <;> cases b <;> decide

theorem Machine.Band.raiseCandidate_iff (z b : Band) :
    z.raiseCandidate b = true ↔ z ≠ .ok ∧ (b = .ok ∨ (z.side = b.side ∧ b.rank.natAbs < z.rank.natAbs)) := by
  have claim : z.raiseCandidate b = true ↔ z ≠ .ok ∧ (b = .ok ∨ (z.side = b.side ∧ b.distance < z.distance)) := by
    simp [Band.raiseCandidate]
  exact claim

/-! ### Raise candidates (R85, steps 4 and 5; R86) -/

section
variable {b z : Band} {q : Pending}

theorem raiseStep_stays (confirm : Option Nat) (q : Pending) (h : ¬ z.raiseCandidate b = true) :
    raiseStep confirm b q z = ([], .clear) := if_neg h

theorem raiseStep_reevaluation (q : Pending) (h : z.raiseCandidate b = true) : raiseStep none b q z = ([z], .clear) := if_pos h

/-- A candidate in the pending direction is the second one: it is taken under either confirmation number. -/
theorem raiseStep_second {n : Nat} (few : n ≤ 2) (f : Band) (h : z.raiseCandidate b = true) :
    raiseStep (some n) b ⟨z.side, 1, some f⟩ z = ([f.nearerOk z], .clear) := by
  unfold raiseStep
  rw [if_pos h]
  dsimp only [Pending.count1]
  rw [if_pos rfl]
  exact if_pos few

/-- A candidate in another direction starts its count at 1. -/
theorem raiseStep_first (n : Nat) (turned : q.direction ≠ z.side) (h : z.raiseCandidate b = true) :
    raiseStep (some n) b q z = if n ≤ 1 then ([z], .clear) else ([], ⟨z.side, 1, some z⟩) := by
  unfold raiseStep
  rw [if_pos h]
  dsimp only [Pending.count1]
  rw [if_neg turned]
  rfl

end

/-! ### The steps of R85 -/

section
variable {l : Levels} {confirm : Option Nat} {b : Band} {q : Pending} {p : Int}

theorem bandStep_equal (same : l.rawZone p = b) : bandStep l confirm b q p = ([], .clear) := if_pos same

theorem bandStep_improves (moved : l.rawZone p ≠ b) (off : b ≠ .ok)
    (nearer : l.releaseZone p = .ok ∨ (l.releaseZone p).betweenOk b = true) :
    bandStep l confirm b q p = ([l.releaseZone p], .clear) := by
  unfold bandStep
  rw [if_neg moved]
  exact if_pos (by simpa [off] using nearer)

/-- A crossing takes OK first and then steps 4 and 5 from there. -/
theorem bandStep_crosses (moved : l.rawZone p ≠ b) (holds : ¬ (b ≠ .ok ∧ (l.releaseZone p = .ok ∨ (l.releaseZone p).betweenOk b = true)))
    (across : (l.releaseZone p).otherSide b = true) :
    bandStep l confirm b q p
      = (.ok :: (raiseStep confirm .ok .clear (l.rawZone p)).1, (raiseStep confirm .ok .clear (l.rawZone p)).2) := by
  have off := ((Band.otherSide_iff _ _).1 across).1
  unfold bandStep
  rw [if_neg moved]
  dsimp only
  rw [if_neg (by simpa using holds), if_pos (by simp [off, across])]

theorem bandStep_raises (moved : l.rawZone p ≠ b)
    (holds : ¬ (b ≠ .ok ∧ (l.releaseZone p = .ok ∨ (l.releaseZone p).betweenOk b = true)))
    (near : ¬ (l.releaseZone p).otherSide b = true) : bandStep l confirm b q p = raiseStep confirm b q (l.rawZone p) := by
  unfold bandStep
  rw [if_neg moved]
  dsimp only
  rw [if_neg (by simpa using holds), if_neg (by simp [near])]

end

/-- Settles O27: the four branches of `bandStep`, and within a crossing and the last one those of `raiseStep`. -/
theorem pressureBandStep : Obligations.PressureBandStep := by
  unfold Obligations.PressureBandStep
  intro l b q p n _ number z zh improves crosses away
  have raw : z = l.rawZone p := rfl
  have few : n ≤ 2 := by omega
  have improves_iff : improves ↔ b ≠ .ok ∧ (l.releaseZone p = .ok ∨ (l.releaseZone p).betweenOk b = true) := by
    rw [Band.betweenOk_iff, ← Band.rank_eq, ← Band.rank_eq]
    exact Iff.rfl
  have crosses_iff : crosses ↔ (l.releaseZone p).otherSide b = true := by
    rw [Band.otherSide_iff, ← Band.side_eq, ← Band.side_eq]
    exact Iff.rfl
  have away_iff : away ↔ (l.rawZone p).raiseCandidate b = true := by
    rw [Band.raiseCandidate_iff, ← Band.rank_eq, ← Band.rank_eq, ← Band.side_eq, ← Band.side_eq]
    exact Iff.rfl
  have candidate (off : z ≠ .ok) : z.raiseCandidate .ok = true := (Band.raiseCandidate_iff _ _).2 ⟨off, .inl rfl⟩
  rw [Band.side_eq]
  clear_value improves crosses away
  simp only [improves_iff, crosses_iff, away_iff, ← raw]
  refine ⟨fun same => ⟨bandStep_equal same, bandStep_equal same⟩,
    fun moved better => ⟨bandStep_improves moved better.1 better.2, bandStep_improves moved better.1 better.2⟩,
    fun moved holds across ok => ?_,
    fun moved holds across off => ?_,
    fun moved holds near up => ⟨?_, fun f again => ?_, fun turned => ⟨?_, ?_⟩⟩,
    fun moved holds near rests => ?_⟩
  · have still (confirm : Option Nat) : raiseStep confirm .ok .clear z = ([], .clear) :=
      raiseStep_stays confirm .clear (by rw [ok]; decide)
    have crossed (confirm : Option Nat) : bandStep l confirm b q p = ([.ok], .clear) := by
      rw [bandStep_crosses moved holds across, ← raw, still]
    exact ⟨crossed _, crossed _⟩
  · have turned : Pending.clear.direction ≠ z.side := by cases hz : z <;> simp_all [Pending.clear, Band.side]
    simp only [bandStep_crosses moved holds across, ← raw, raiseStep_first _ turned (candidate off),
      raiseStep_reevaluation _ (candidate off)]
    exact ⟨rfl, rfl, rfl⟩
  · rw [bandStep_raises moved holds near]
    exact raiseStep_reevaluation q up
  · rw [bandStep_raises moved holds near, again]
    exact raiseStep_second few f up
  · rw [bandStep_raises moved holds near, ← raw, raiseStep_first 1 turned up]
    rfl
  · rw [bandStep_raises moved holds near, ← raw, raiseStep_first 2 turned up]
    rfl
  · rw [bandStep_raises moved holds near, bandStep_raises moved holds near]
    exact ⟨raiseStep_stays _ q rests, raiseStep_stays _ q rests⟩

end Sys2Proof

/-! ## The temperature, leak and imbalance steps as wholes -/

namespace Sys2Proof
open Machine Safety
open Machine.State (Stages)

theorem Machine.State.Stages.judges {p : Pos} {s t : State} (h : Stages p s t) : t.Judges s := ⟨h.rest, h.grown⟩

/-! ### The temperature band (R88) -/

/-- A temperature code that leaves the band leaves the state (R88). -/
theorem Machine.State.judgeTemp_same {s : State} {p : Pos} {tc : BitVec 8}
    (stays : Claims.tempAfter (s.profileOfAxle p.axle) (s.wheel p).tempBand tc = (s.wheel p).tempBand) :
    s.judgeTemp p tc = s := by
  unfold State.judgeTemp
  by_cases absent : tc.toNat = 255
  · rw [measuredTemp_absent absent]
  · rw [Claims.tempAfter_present absent] at stays
    rw [measuredTemp_present absent]
    exact if_pos stays

/-- A change of temperature band exchanges the conditions that mirror it (R88). -/
theorem Machine.WheelRecord.heated_moved {r : WheelRecord} {f : Profile} {tc : BitVec 8}
    (moved : Claims.tempAfter f r.tempBand tc ≠ r.tempBand) :
    r.heated f tc = { r with
      tempBand := Claims.tempAfter f r.tempBand tc
      conditions := Claims.exchange (Claims.tempCondition r.tempBand) (Claims.tempCondition (Claims.tempAfter f r.tempBand tc))
        r.conditions } := by
  unfold WheelRecord.heated
  dsimp only
  rw [if_neg moved]

/-- Settles O28: the record is `WheelRecord.heated`, every other one stays. -/
theorem temperatureBandStep : Obligations.TemperatureBandStep := by
  unfold Obligations.TemperatureBandStep
  intro s p tc b after u
  have stages := s.judgeTemp_stages p tc
  refine ⟨stages.judges.judgedFrom, s.judgeTemp_permit p tc, fun q other => stages.elsewhere other.symm,
    State.judgeTemp_same, fun moved => (s.judgeTemp_wheel p tc).trans (WheelRecord.heated_moved moved)⟩

/-! ### The leak step (R89, R90) -/

/-- The first reading sets the leak reference and does nothing else (R89). -/
theorem Machine.State.leakStep_first {s : State} {p : Pos} (ref : (s.wheel p).leakRef = none) (alert : Bool) (cold : Int)
    (arrival : Uptime) :
    s.leakStep p alert cold arrival = s.setWheel p { s.wheel p with leakRef := some (cold, arrival) } := by
  unfold State.leakStep
  rw [ref]
  rfl

/-- A reading within 30 seconds of the reference changes nothing (R89). -/
theorem Machine.State.leakStep_early {s : State} {p : Pos} {old : Int} {since : Uptime}
    (ref : (s.wheel p).leakRef = some (old, since)) {arrival : Uptime} (early : elapsed arrival since < 300) (alert : Bool)
    (cold : Int) : s.leakStep p alert cold arrival = s := by
  unfold State.leakStep
  rw [ref]
  exact if_pos early

/-- Settles O29: `leakStep_wheel` gives the record, `leakStep_first` and `leakStep_early` the whole state. -/
theorem leakRateIsJudged : Obligations.LeakRateIsJudged := by
  unfold Obligations.LeakRateIsJudged
  intro s p alert cold arrival r u
  have stages := s.leakStep_stages p alert cold arrival
  obtain ⟨reference, rate, count, leak, wheel, judged⟩ := s.leakStep_wheel p alert cold arrival
  refine ⟨stages.judges.judgedFrom, s.leakStep_permit p alert cold arrival, fun q other => stages.elsewhere other.symm, ?_,
    ⟨reference, rate, count, leak, wheel⟩, fun ref => State.leakStep_first ref alert cold arrival,
    fun old since ref early => State.leakStep_early ref early alert cold⟩
  rw [show u.wheel p = _ from wheel]
  exact judged

/-! ### The imbalance check (R91) -/

/-- A check without a verdict leaves the state. -/
theorem Machine.State.checkPair_idle {s : State} {p : Pos} (none : s.pairVerdict p = none) : s.checkPair p = s := by
  unfold State.pairVerdict at none
  unfold State.checkPair
  split_ifs at none ⊢
  · cases low : (s.wheel p.pairLow).livePressure with
    | none => rfl
    | some x =>
      cases high : (s.wheel p.pairHigh).livePressure with
      | none => rfl
      | some y =>
        rw [low, high] at none
        dsimp only at none ⊢
        split_ifs at none ⊢
        rfl
  · rfl

theorem Machine.State.checkPair_judges (s : State) (p : Pos) : (s.checkPair p).Judges s :=
  ⟨s.checkPair_rest p, s.checkPair_grown p⟩

/-- Settles O30: what `checkPair` writes is `pairVerdict`, and without a verdict it writes nothing. -/
theorem dualPairIsCompared : Obligations.DualPairIsCompared := by
  unfold Obligations.DualPairIsCompared
  intro s p u limit release
  have both {b : Bool} (verdict : s.pairVerdict p = some b) :
      u.active p.pairLow .imbalance = b ∧ u.active p.pairHigh .imbalance = b := by
    rw [State.checkPair_active, State.checkPair_active, if_pos (.inl rfl), if_pos (.inr rfl), verdict]
    exact ⟨rfl, rfl⟩
  refine ⟨(s.checkPair_judges p).judgedFrom, s.checkPair_permit p, fun q => ?_, fun q low high => ?_,
    fun single => State.checkPair_idle (State.pairVerdict_idle (.inl single)),
    fun low => State.checkPair_idle (State.pairVerdict_idle (.inr (.inl ((not_liveAt_iff s _).1 low)))),
    fun high => State.checkPair_idle (State.pairVerdict_idle (.inr (.inr ((not_liveAt_iff s _).1 high)))),
    fun x y dual liveLow liveHigh coldLow coldHigh => ?_⟩
  · rw [State.checkPair_wheel]
    split
    · exact upToImbalance_verdict _ _
    · exact upToImbalance_refl _
  · rw [State.checkPair_wheel, if_neg (not_or.2 ⟨low, high⟩)]
  · have verdict := State.pairVerdict_of_live dual ((liveAt_iff s _ x).1 ⟨liveLow, coldLow⟩)
      ((liveAt_iff s _ y).1 ⟨liveHigh, coldHigh⟩)
    refine ⟨fun beyond => both (verdict.trans (if_pos beyond)), fun within under => both ?_,
      fun within between => State.checkPair_idle ?_⟩
    · rw [verdict, if_neg (not_lt.2 within)]
      exact if_pos under
    · rw [verdict, if_neg (not_lt.2 within)]
      exact if_neg (not_le.2 between)

end Sys2Proof

/-! ## FAULT entries and silence -/

namespace Sys2Proof
open Machine Safety

/-! ### An accepted FAULT entry (R80) -/

theorem faultCodeOf_eq (b : BitVec 8) : faultCodeOf b = if b = 0 ∨ b = 255 then none else some b := by
  have zero : b.toNat = 0 ↔ b = 0 := (BitVec.toNat_eq (y := 0)).symm
  have full : b.toNat = 255 ↔ b = 255 := (BitVec.toNat_eq (y := 255)).symm
  unfold faultCodeOf
  simp only [zero, full]

/-- A record after an accepted FAULT entry (R80). -/
def Machine.WheelRecord.faulted (r : WheelRecord) (e : QueueEntry) (now : Uptime) : WheelRecord :=
  WheelRecord.accepted { r with
    faultCode := faultCodeOf e.telegram.tempCode
    conditions := r.conditions.put .sensorFault true } e now

theorem Machine.State.acceptFault_wheel (s : State) (p q : Pos) (e : QueueEntry) :
    (s.acceptFault p e).wheel q = if p = q then (s.wheel q).faulted e s.uptime else s.wheel q := by
  unfold State.acceptFault
  by_cases here : p = q
  · subst here
    rw [if_pos rfl, State.acceptEntry_wheel, State.modWheel_wheel, if_pos rfl, State.raiseCond_wheel, if_pos rfl,
      State.modWheel_uptime, State.uptime_of_rest (State.raiseCond_rest s p .sensorFault)]
    rfl
  · rw [if_neg here, (State.acceptEntry_stages _ p e).elsewhere here, State.modWheel_wheel, if_neg here,
      State.raiseCond_wheel, if_neg here]

theorem Machine.State.readEntry_fault {s : State} {e : QueueEntry} {p : Pos} (found : s.lookup e.telegram.id = some p)
    (accepts : Claims.Accepts (s.wheel p) e) (kind : e.telegram.kind = .fault) : s.readEntry e = s.acceptFault p e := by
  rw [State.readEntry, found]
  dsimp only
  rw [State.applyEntry, if_pos ((accepts_iff _ _).2 accepts), if_pos kind]

/-- Settles O22: the record of an accepted FAULT entry is `WheelRecord.faulted`. -/
theorem faultEntryRaisesSensorFault : Obligations.FaultEntryRaisesSensorFault := by
  unfold Obligations.FaultEntryRaisesSensorFault
  intro s e rest p h unmarked found kind accepts
  have unsent : Claims.NotHandedOver s e := .inl (by rw [kind]; decide)
  have taken := exec_entryTaken h
  rw [State.counted_unmarked _ unmarked, State.handled_unsent (s := { s with queue := rest }) unsent] at taken
  have wheels := State.judgedBy_wheels { s with queue := rest } e
  rw [State.readEntry_fault (s := { s with queue := rest }) found accepts kind] at wheels
  have wheel (q : Pos) := (State.wheel_of_wheels wheels q).trans (State.acceptFault_wheel _ p q e)
  refine ⟨_, taken, (State.judgedBy_judges _ e).judgedFrom, fun q other => (wheel q).trans (if_neg other.symm), ?_⟩
  rw [wheel, if_pos rfl, WheelRecord.faulted, faultCodeOf_eq]
  unfold WheelRecord.accepted Claims.acceptedRssi
  cases e.channel <;> rfl

/-! ### One silence expiry (R92 to R94) -/

theorem expiryDue_iff (s : State) (p : Pos) : s.expiryDue p = true ↔ Claims.Due s p := by
  have limit : Claims.silenceLimit s p.axle = s.silenceLimit p.axle := rfl
  have expires : (s.wheel p).state.expires = true ↔ (s.wheel p).state = .awaiting ∨ (s.wheel p).state = .live := by
    cases (s.wheel p).state <;> decide
  have reached : s.silenceReached p = true
      ↔ ∃ r, (s.wheel p).silenceRef = some r ∧ s.silenceLimit p.axle ≤ ((s.uptime - r).toNat : Int) := by
    unfold State.silenceReached elapsed
    cases (s.wheel p).silenceRef <;> simp
  unfold State.expiryDue Claims.Due
  rw [limit, Bool.and_eq_true, Bool.and_eq_true, expires, reached, beq_iff_eq, and_assoc]

/-- A record whose silence has expired, but for IMBALANCE (R94). -/
def Machine.WheelRecord.silenced (r : WheelRecord) : WheelRecord :=
  { r with state := .silent, stale := r.pCold.isSome, conditions := r.conditions.put .silent true }

/-- An expiry silences its record and clears IMBALANCE of its pair on a DUAL axle (R92, R94). -/
theorem Machine.State.expireAt_wheel (s : State) (p q : Pos) :
    (s.expireAt p).wheel q = (if p = q then (s.wheel q).silenced else s.wheel q).withImbalance
      (if (s.axle p.axle).kind = .dual ∧ (q = p.pairLow ∨ q = p.pairHigh) then some false else none) := by
  have silenced : ((s.modWheel p fun r => { r with state := .silent, stale := r.pCold.isSome }).raiseCond p .silent).wheel q
      = if p = q then (s.wheel q).silenced else s.wheel q := by
    rw [State.raiseCond_wheel, State.modWheel_wheel, State.modWheel_wheel, if_pos rfl]
    by_cases here : p = q
    · subst here
      rw [if_pos rfl, if_pos rfl]
      rfl
    · rw [if_neg here, if_neg here, if_neg here]
  unfold State.expireAt
  rw [State.clearPair_wheel, silenced, State.axle_of_rest ((State.raiseCond_rest _ p .silent).trans (State.modWheel_rest s p _))]
  split_ifs <;> rfl

theorem Machine.State.expireAt_judges (s : State) (p : Pos) : (s.expireAt p).Judges s where
  rest := s.expireAt_rest p
  grown := (State.clearPair_clears _ p).grown.trans ((State.raiseCond_grown _ p .silent).trans (s.modWheel_grown p _))

/-- A record that can expire is not SILENT. -/
theorem Claims.Due.state_ne {s : State} {p : Pos} (due : Claims.Due s p) : (s.wheel p).state ≠ .silent := by
  obtain ⟨awaiting | live, _⟩ := due
  · rw [awaiting]; decide
  · rw [live]; decide

theorem Machine.WheelRecord.withImbalance_state (r : WheelRecord) (v : Option Bool) : (r.withImbalance v).state = r.state := by
  cases v <;> rfl

/-- Settles O31: `expireAt_wheel`, with WHEEL because the record's state changes. -/
theorem silenceExpiryIsTakenWhenDue : Obligations.SilenceExpiryIsTakenWhenDue := by
  unfold Obligations.SilenceExpiryIsTakenWhenDue
  intro s a k p
  refine ⟨fun idle => if_neg (mt (expiryDue_iff s p).1 idle), fun due => ?_⟩
  have wheel (q : Pos) : ((s.noteWheels (s.expireAt p)).evaluate).wheel q = _ :=
    (State.wheel_of_wheels ((State.evaluate_wheels _).trans (State.noteWheels_wheels s _)) q).trans (s.expireAt_wheel p q)
  have changed : (s.wheel p).judged ≠ ((s.expireAt p).wheel p).judged := by
    refine judged_ne_of_state ?_
    rw [State.expireAt_wheel, WheelRecord.withImbalance_state, if_pos rfl]
    exact due.state_ne
  refine ⟨_, if_pos ((expiryDue_iff s p).2 due), (((s.expireAt_judges p).noteWheels s).evaluate).judgedFrom,
    (State.noteWheels_flagged changed).evaluate, ?_, fun q other low high => ?_, fun q other pair => ?_⟩
  · rw [wheel, if_pos rfl]
    by_cases dual : (s.axle p.axle).kind = .dual
    · rw [if_pos ⟨dual, p.eq_pairLow_or_pairHigh⟩, if_pos dual]
      rfl
    · rw [if_neg fun h => dual h.1, if_neg dual]
      rfl
  · rw [wheel, if_neg other.symm, if_neg fun h => (not_or.2 ⟨low, high⟩) h.2]
    rfl
  · rw [wheel, if_neg other.symm]
    by_cases dual : (s.axle p.axle).kind = .dual
    · rw [if_pos ⟨dual, pair⟩, if_pos dual]
      rfl
    · rw [if_neg fun h => dual h.1, if_neg dual]
      rfl

end Sys2Proof

/-! ## The load, motion and lifted-set items -/

namespace Sys2Proof
open Machine Safety

/-! ### The load item (R96, R146) -/

/-- The load item written, no wheel judged yet. -/
def Machine.State.withLoad (s : State) (q : PortId) (x : LoadState) : State :=
  { s with vehicle := { s.vehicle with load := x, loadWriter := some q } }

theorem Machine.State.writeLoad_eq (s : State) (q : PortId) (x : LoadState) :
    s.writeLoad q x = ((s.withLoad q x).noteWheels ((s.withLoad q x).targetChange fun _ => true)).evaluate := rfl

theorem Machine.State.vehicleTaken_axle (s : State) (q : PortId) (item : Nat) (v : Half) (a : Fin 10) :
    (s.vehicleTaken q item v).axle a = s.axle a := by simp [State.vehicleTaken]

theorem Machine.State.vehicleTaken_levelsOf (s : State) (q : PortId) (item : Nat) (v : Half) (a : Fin 10) :
    (s.vehicleTaken q item v).levelsOf a = s.levelsOf a := by
  unfold State.vehicleTaken
  rw [State.answer_levelsOf]
  exact State.setPort_levelsOf _ _ _ a

theorem Machine.State.writeLoad_reevaluated (s : State) (q : PortId) (x : LoadState) :
    Claims.Reevaluated s (s.writeLoad q x) (fun a => (s.axle a).present = true) := by
  have changed := (s.withLoad q x).targetChange_reevaluated fun _ => true
  simp only [and_true] at changed
  have rest : (s.writeLoad q x).rest = ((s.withLoad q x).targetChange fun _ => true).rest := by
    rw [State.writeLoad_eq, State.evaluate_rest, State.noteWheels_rest]
  refine (changed.of_wheels rfl).of_wheels_after ?_ (State.axle_of_rest rest) (State.levelsOf_of_rest rest)
  rw [State.writeLoad_eq, State.evaluate_wheels, State.noteWheels_wheels]

/-- Settles O39: the target change of every present axle, under the levels of the load written. -/
theorem loadWriteReevaluatesPresentAxles : Obligations.LoadWriteReevaluatesPresentAxles := by
  unfold Obligations.LoadWriteReevaluatesPresentAxles
  intro s q x takes value u
  have item : loadOf value = some x := by cases x <;> rfl
  have taken : u = (s.withLoad q x).vehicleTaken q 0 value := (itemTaken_eq _ q 0 value).symm
  have judges : (s.writeLoad q x).Judges (s.withLoad q x) := ((State.targetChange_judges _ _).noteWheels _).evaluate
  refine ⟨(s.writeLoad q x).vehicleTaken q 0 value, ?_, ?_, ?_⟩
  · refine (next_taken takes _).trans ?_
    rw [item]
  · rw [taken]
    exact (judges.vehicleTaken q 0 value).judgedFrom
  · exact (s.writeLoad_reevaluated q x).of_wheels_after (State.vehicleTaken_wheels _ q 0 value)
      (State.vehicleTaken_axle _ q 0 value) (State.vehicleTaken_levelsOf _ q 0 value)

/-! ### The expiries now due (R94, R149) -/

/-- Whether a record expires is told by its own state and silence reference, and by what judging leaves (R94). -/
theorem Machine.State.expiryDue_congr {s t : State} (rest : t.rest = s.rest) {p : Pos}
    (state : (t.wheel p).state = (s.wheel p).state) (ref : (t.wheel p).silenceRef = (s.wheel p).silenceRef) :
    t.expiryDue p = s.expiryDue p := by
  have supply : t.supply = s.supply := (congrArg State.supply rest :)
  have limit : t.silenceLimit p.axle = s.silenceLimit p.axle := (congrArg (fun x : State => x.silenceLimit p.axle) rest :)
  unfold State.expiryDue State.silenceReached
  rw [state, ref, supply, limit, State.uptime_of_rest rest]

theorem Machine.WheelRecord.withImbalance_silenceRef (r : WheelRecord) (v : Option Bool) :
    (r.withImbalance v).silenceRef = r.silenceRef := by
  cases v <;> rfl

/-- An expiry makes no other one due, and takes none away. -/
theorem Machine.State.expireAt_expiryDue (s : State) {p q : Pos} (other : p ≠ q) :
    (s.expireAt p).expiryDue q = s.expiryDue q := by
  apply State.expiryDue_congr (s.expireAt_rest p)
  · rw [State.expireAt_wheel, WheelRecord.withImbalance_state, if_neg other]
  · rw [State.expireAt_wheel, WheelRecord.withImbalance_silenceRef, if_neg other]

/-- IMBALANCE cleared twice is cleared; each clearing has its own cause. -/
theorem Machine.WheelRecord.withImbalance_twice (r : WheelRecord) (c d : Prop) [Decidable c] [Decidable d] :
    (r.withImbalance (if c then some false else none)).withImbalance (if d then some false else none)
      = r.withImbalance (if c ∨ d then some false else none) := by
  by_cases hc : c <;> by_cases hd : d <;> simp only [hc, hd, or_self, or_true, true_or, if_true, if_false] <;> rfl

theorem Machine.WheelRecord.silenced_withImbalance (r : WheelRecord) (v : Option Bool) :
    (r.withImbalance v).silenced = r.silenced.withImbalance v := by
  cases v <;> rfl

theorem Machine.WheelRecord.silencedIf_withImbalance (c : Prop) [Decidable c] (r : WheelRecord) (v : Option Bool) :
    (if c then (r.withImbalance v).silenced else r.withImbalance v) = (if c then r.silenced else r).withImbalance v := by
  split
  · exact r.silenced_withImbalance v
  · rfl

/-- The expiries of several positions in turn, each once: every record tells by its own silence whether it expires, and by
those of its pair whether IMBALANCE clears. -/
theorem Machine.State.expireEach_wheel (s : State) {ps : List Pos} (once : ps.Nodup) (q : Pos) :
    (s.atEach ps fun t p => if t.expiryDue p then t.expireAt p else t).wheel q
      = (if q ∈ ps ∧ s.expiryDue q = true then (s.wheel q).silenced else s.wheel q).withImbalance
          (if (s.axle q.axle).kind = .dual
              ∧ ((q.pairLow ∈ ps ∧ s.expiryDue q.pairLow = true) ∨ (q.pairHigh ∈ ps ∧ s.expiryDue q.pairHigh = true))
            then some false else none) := by
  induction ps generalizing s with
  | nil => simp [State.atEach, WheelRecord.withImbalance]
  | cons p ps ih =>
    obtain ⟨out, rest⟩ := List.nodup_cons.1 once
    show (State.atEach (if s.expiryDue p then s.expireAt p else s) ps _).wheel q = _
    rw [ih _ rest]
    by_cases due : s.expiryDue p = true
    · have kept (r : Pos) : (r ∈ ps ∧ (s.expireAt p).expiryDue r = true) ↔ (r ∈ ps ∧ s.expiryDue r = true) :=
        and_congr_right fun inside => by rw [s.expireAt_expiryDue (by rintro rfl; exact out inside)]
      have counted (r : Pos) : (r ∈ p :: ps ∧ s.expiryDue r = true) ↔ (p = r ∨ (r ∈ ps ∧ s.expiryDue r = true)) := by
        by_cases here : p = r
        · simp [← here, due]
        · simp [here, Ne.symm here]
      have pair : ((s.axle p.axle).kind = .dual ∧ (q = p.pairLow ∨ q = p.pairHigh))
          ↔ (s.axle q.axle).kind = .dual ∧ (p = q.pairLow ∨ p = q.pairHigh) := by
        rw [Pos.pair_comm]
        refine and_congr_left fun near => ?_
        rw [show p.axle = q.axle by rcases near with rfl | rfl <;> rfl]
      simp only [if_pos due, kept, counted, State.axle_of_rest (s.expireAt_rest p), State.expireAt_wheel, pair,
        WheelRecord.silencedIf_withImbalance, WheelRecord.withImbalance_twice]
      congr 1
      · by_cases here : p = q
        · simp [here, here ▸ out]
        · simp [here]
      · refine if_congr ?_ rfl rfl
        rw [← and_or_left, or_or_or_comm]
    · have counted (r : Pos) : (r ∈ p :: ps ∧ s.expiryDue r = true) ↔ (r ∈ ps ∧ s.expiryDue r = true) := by
        by_cases here : p = r
        · simp [← here, due]
        · simp [Ne.symm here]
      simp only [if_neg due, counted]

theorem Machine.State.expireDue_wheel (s : State) (q : Pos) :
    s.expireDue.wheel q = (if s.expiryDue q = true then (s.wheel q).silenced else s.wheel q).withImbalance
      (if (s.axle q.axle).kind = .dual ∧ (s.expiryDue q.pairLow = true ∨ s.expiryDue q.pairHigh = true)
        then some false else none) := by
  unfold State.expireDue
  rw [State.expireEach_wheel s allPos_nodup]
  simp only [mem_allPos, true_and]

theorem Machine.State.expireDue_judges (s : State) : s.expireDue.Judges s where
  rest := s.expireDue_rest
  grown := foldl_grown _ (fun t p => by
    split
    · exact (t.expireAt_judges p).grown
    · exact .refl t) _ s

theorem Machine.State.takeExpiries_judges (s : State) : s.takeExpiries.Judges s := (s.expireDue_judges.noteWheels s).evaluate

theorem Machine.State.takeExpiries_wheel (s : State) (q : Pos) : s.takeExpiries.wheel q = s.expireDue.wheel q :=
  State.wheel_of_wheels ((State.evaluate_wheels _).trans (State.noteWheels_wheels s _)) q

/-- What the statements ask of the expiries taken in an event (R92 to R94, R149). -/
theorem expiriesTaken_takeExpiries (s : State) : Claims.ExpiriesTaken s s.takeExpiries := by
  have imbalance (q : Pos) : s.takeExpiries.active q .imbalance
      = if (s.axle q.axle).kind = .dual ∧ (s.expiryDue q.pairLow = true ∨ s.expiryDue q.pairHigh = true) then false
        else s.active q .imbalance := by
    have same : (if s.expiryDue q = true then (s.wheel q).silenced else s.wheel q).conditions.has .imbalance
        = s.active q .imbalance := by
      split <;> rfl
    unfold State.active at same ⊢
    rw [State.takeExpiries_wheel, State.expireDue_wheel, WheelRecord.withImbalance_has, same]
    split_ifs <;> rfl
  refine ⟨fun p due => ⟨?_, ?_⟩, fun p idle => ?_, fun p dual near => ?_, fun p alone => ?_⟩
  · have changed : (s.wheel p).judged ≠ (s.expireDue.wheel p).judged := by
      refine judged_ne_of_state ?_
      rw [State.expireDue_wheel, WheelRecord.withImbalance_state, if_pos ((expiryDue_iff s p).2 due)]
      exact due.state_ne
    exact (State.noteWheels_flagged changed).evaluate
  · rw [State.takeExpiries_wheel, State.expireDue_wheel, if_pos ((expiryDue_iff s p).2 due)]
    generalize verdict : (if (s.axle p.axle).kind = .dual ∧ (s.expiryDue p.pairLow = true ∨ s.expiryDue p.pairHigh = true)
      then some false else none : Option Bool) = v
    have own := upToImbalance_verdict (s.wheel p).silenced v
    refine ⟨((s.wheel p).silenced.withImbalance v).conditions, ?_, ?_, fun dual => ?_, fun k loud other => ?_⟩
    · cases v <;> rfl
    · exact own.has (k := .silent) (by decide)
    · have near : s.expiryDue p.pairLow = true ∨ s.expiryDue p.pairHigh = true :=
        Pos.pair_of (P := fun d => s.expiryDue d = true) ((expiryDue_iff s p).2 due)
      rw [← verdict, if_pos ⟨dual, near⟩]
      rfl
    · exact (own.has other).trans ((Conditions.has_put _ _ _ _).trans (if_neg loud.symm))
  · rw [State.takeExpiries_wheel, State.expireDue_wheel, if_neg (mt (expiryDue_iff s p).1 idle)]
    exact upToImbalance_verdict _ _
  · rw [imbalance, if_pos ⟨dual, near.imp (expiryDue_iff s _).2 (expiryDue_iff s _).2⟩]
  · rw [imbalance, if_neg]
    rintro ⟨dual, near⟩
    rcases alone with single | ⟨low, high⟩
    · rw [single] at dual
      cases dual
    · exact near.elim (low ∘ (expiryDue_iff s _).1) (high ∘ (expiryDue_iff s _).1)

/-! ### The motion item and the lifted set (R145, R149) -/

/-- The expiries of an event do not read the reply slot and the flags. -/
theorem Claims.expiriesTaken_itemTaken (u t : State) (q : PortId) (item : Byte) (v : Half) :
    Claims.ExpiriesTaken (Claims.itemTaken u q item v) t ↔ Claims.ExpiriesTaken u t := by
  cases q <;> exact Iff.rfl

/-- The reply of an item leaves the records and the flags that are set. -/
theorem Claims.ExpiriesTaken.vehicleTaken {u t : State} (h : Claims.ExpiriesTaken u t) (q : PortId) (item : Nat) (v : Half) :
    Claims.ExpiriesTaken u (t.vehicleTaken q item v) := by
  have wheel := State.wheel_of_wheels (State.vehicleTaken_wheels t q item v)
  obtain ⟨due, idle, cleared, kept⟩ := h
  unfold Claims.ExpiriesTaken State.active
  simp only [wheel]
  exact ⟨fun p h => ⟨(due p h).1.vehicleTaken q item v, (due p h).2⟩, idle, cleared, kept⟩

/-- The motion item written, no expiry taken yet. -/
def Machine.State.withMotion (s : State) (q : PortId) (x : MotionState) : State :=
  { s with vehicle := { s.vehicle with motion := x, motionWriter := some q } }

/-- The lifted set written, no expiry taken yet. -/
def Machine.State.withLifted (s : State) (q : PortId) (x : BitVec 10) : State :=
  { s with vehicle := { s.vehicle with lifted := x, liftedWriter := some q } }

theorem Machine.State.writeLifted_same (s : State) (q : PortId) {x : BitVec 10} (same : x = s.vehicle.lifted) :
    s.writeLifted q x = (s.withLifted q x).evaluate := if_pos same.symm

theorem Machine.State.writeLifted_moved (s : State) (q : PortId) {x : BitVec 10} (moved : x ≠ s.vehicle.lifted) :
    s.writeLifted q x = (s.withLifted q x).takeExpiries := if_neg moved.symm

/-- The set that a lifted-set write admits is the named one, less the axles absent or not lift-capable (R145). -/
theorem Machine.State.admittedLifts_eq {s : State} {named x : BitVec 10}
    (h : ∀ a : Fin 10, x.getLsbD a.val = true ↔
      named.getLsbD a.val = true ∧ (s.axle a).present = true ∧ (s.axle a).liftCapable = true) : s.admittedLifts named = x := by
  apply BitVec.eq_of_getLsbD_eq
  intro i hi
  rw [s.admittedLifts_getLsbD named ⟨i, hi⟩, Bool.eq_iff_iff, h ⟨i, hi⟩, Bool.and_eq_true, Bool.and_eq_true, and_assoc]

/-- Settles O42: both writes take `takeExpiries` on the state with the item written, but for a set that stays as it is. -/
theorem motionAndLiftWritesTakeExpiries : Obligations.MotionAndLiftWritesTakeExpiries := by
  unfold Obligations.MotionAndLiftWritesTakeExpiries
  refine ⟨fun s q x takes => ?_, fun s q value admitted takes small admits => ?_⟩
  · intro value u
    have item : motionOf value = some x := by cases x <;> rfl
    refine ⟨(s.withMotion q x).takeExpiries.vehicleTaken q 3 value, ?_, ?_, ?_⟩
    · refine (next_taken takes _).trans ?_
      rw [item]
      rfl
    · rw [show u = (s.withMotion q x).vehicleTaken q 3 value from (itemTaken_eq _ q 3 value).symm]
      exact ((State.takeExpiries_judges _).vehicleTaken q 3 value).judgedFrom
    · exact (Claims.expiriesTaken_itemTaken _ _ q _ value).2 ((expiriesTaken_takeExpiries _).vehicleTaken q 3 value)
  · intro u
    have item : axleSetOf value = some (value.setWidth 10) := if_pos small
    have named : s.admittedLifts (value.setWidth 10) = admitted :=
      State.admittedLifts_eq fun a => by rw [admits, BitVec.getLsbD_setWidth, decide_eq_true a.isLt, Bool.true_and]
    have taken : u = (s.withLifted q admitted).vehicleTaken q 4 (admitted.setWidth 16) :=
      (itemTaken_eq _ q 4 (admitted.setWidth 16)).symm
    have judges : (s.writeLifted q admitted).Judges (s.withLifted q admitted) := by
      by_cases same : admitted = s.vehicle.lifted
      · rw [s.writeLifted_same q same]
        exact (State.Judges.refl _).evaluate
      · rw [s.writeLifted_moved q same]
        exact State.takeExpiries_judges _
    refine ⟨(s.writeLifted q admitted).vehicleTaken q 4 (admitted.setWidth 16), ?_, ?_, fun same => ⟨?_, ?_⟩, fun moved => ?_⟩
    · refine (next_taken takes _).trans ?_
      rw [item]
      dsimp only
      rw [named]
    · rw [taken]
      exact (judges.vehicleTaken q 4 _).judgedFrom
    · rw [State.vehicleTaken_wheels, s.writeLifted_same q same, State.evaluate_wheels]
      rfl
    · rw [State.vehicleTaken_alerts, s.writeLifted_same q same, State.evaluate_alerts]
      rfl
    · rw [s.writeLifted_moved q moved]
      exact (Claims.expiriesTaken_itemTaken _ _ q _ _).2 ((expiriesTaken_takeExpiries _).vehicleTaken q 4 _)

end Sys2Proof

/-! ## What the flags WHEEL, ALERT_RAISED and ALERT_CLEARED watch -/

namespace Sys2Proof
open Machine Safety
open Machine.State (Stages Clears)

/-! ### The part of a state that the three flags watch (R74, R109) -/

/-- The flags that judging wheels sets (R74, R109). -/
def Machine.EventFlag.watches : EventFlag → Bool
  | .wheel | .alertRaised | .alertCleared => true
  | _ => false

/-- The judged fields of every record, and the three flags of each port. -/
def Machine.State.watch (s : State) : (Pos → WheelState × Band × TempBand × Conditions) × (PortId → EventFlag → Bool) :=
  (fun p => (s.wheel p).judged, fun q f => f.watches && (s.port q).flag f)

section
variable {s t : State}

theorem Machine.State.watch_ext (judged : ∀ p, (t.wheel p).judged = (s.wheel p).judged)
    (flags : ∀ q f, f.watches = true → (t.port q).flag f = (s.port q).flag f) : t.watch = s.watch := by
  refine Prod.ext (funext judged) (funext fun q => funext fun f => ?_)
  show (f.watches && _) = (f.watches && _)
  cases h : f.watches
  · rfl
  · rw [flags q f h]

theorem Machine.State.judged_of_watch (h : t.watch = s.watch) (p : Pos) : (t.wheel p).judged = (s.wheel p).judged :=
  congrFun (congrArg Prod.fst h) p

theorem Machine.State.flag_of_watch (h : t.watch = s.watch) (q : PortId) {f : EventFlag} (watched : f.watches = true) :
    (t.port q).flag f = (s.port q).flag f := by
  have same : (f.watches && (t.port q).flag f) = (f.watches && (s.port q).flag f) :=
    congrFun (congrFun (congrArg Prod.snd h) q) f
  rwa [watched, Bool.true_and, Bool.true_and] at same

theorem Machine.State.conditions_of_judged {r u : WheelRecord} (h : r.judged = u.judged) : r.conditions = u.conditions :=
  congrArg (fun x : WheelState × Band × TempBand × Conditions => x.2.2.2) h

theorem Machine.State.active_of_watch (h : t.watch = s.watch) (p : Pos) (k : Condition) : t.active p k = s.active p k := by
  unfold State.active
  rw [State.conditions_of_judged (State.judged_of_watch h p)]

end

section
variable (s : State) (q : PortId)

/-- A port written with the flags it has. -/
theorem Machine.State.setPort_watch {x : Port} (flags : x.flags = (s.port q).flags) : (s.setPort q x).watch = s.watch := by
  refine State.watch_ext (fun p => by rw [State.setPort_wheel]) fun r f _ => ?_
  rw [State.setPort_port]
  split
  · next same => rw [← same, Port.flag, Port.flag, flags]
  · rfl

@[simp] theorem Machine.State.answer_watch (st : Status) (bs : List Byte) : (s.answer q st bs).watch = s.watch :=
  s.setPort_watch q rfl

@[simp] theorem Machine.State.refuse_watch (st : Status) : (s.refuse q st).watch = s.watch := s.answer_watch q st []

@[simp] theorem Machine.State.setStaging_watch (g : Option Staging) : (s.setStaging q g).watch = s.watch := s.setPort_watch q rfl

theorem Machine.State.setFlag_watch {f : EventFlag} (other : f.watches = false) : (s.setFlag q f).watch = s.watch := by
  refine State.watch_ext (fun p => by unfold State.setFlag; rw [State.setPort_wheel]) fun r g watched => ?_
  rw [State.setFlag_port]
  split
  · next same =>
    subst same
    rw [Port.flag_or_bit, beq_false_of_ne (by rintro rfl; rw [other] at watched; cases watched), Bool.or_false]
  · rfl

theorem Machine.State.setFlagBoth_watch {f : EventFlag} (other : f.watches = false) : (s.setFlagBoth f).watch = s.watch :=
  (State.setFlag_watch _ .b other).trans (s.setFlag_watch .a other)

theorem Machine.State.setFlagIf_watch (c : Bool) {f : EventFlag} (other : f.watches = false) :
    (s.setFlagIf c f).watch = s.watch := by
  cases c
  · rfl
  · exact s.setFlagBoth_watch other

@[simp] theorem Machine.State.vehicleTaken_watch (item : Nat) (v : Half) : (s.vehicleTaken q item v).watch = s.watch :=
  (State.answer_watch _ q _ _).trans (s.setFlag_watch _ rfl)

@[simp] theorem Machine.State.putPermit_watch (x : Permit) : (s.putPermit x).watch = s.watch :=
  State.setFlagIf_watch { s with permit := x } _ rfl

@[simp] theorem Machine.State.evaluate_watch : s.evaluate.watch = s.watch := by
  unfold State.evaluate
  split
  · rfl
  · exact s.putPermit_watch _

@[simp] theorem Machine.State.setReceiver_watch (ch : Channel) (r : Receiver) : (s.setReceiver ch r).watch = s.watch := by
  cases ch <;> rfl

@[simp] theorem Machine.State.endSession_watch (o : LearnOutcome) : (s.endSession o).watch = s.watch :=
  State.setFlagBoth_watch { s with learn := ⟨none, o⟩ } rfl

@[simp] theorem Machine.State.resetCounts_watch : s.resetCounts.watch = s.watch :=
  State.watch_ext (fun p => by rw [show s.resetCounts.wheel p = _ from State.tabulate_wheel s _ p]; rfl) fun _ _ _ => rfl

@[simp] theorem Machine.State.moveSilenceRefs_watch : s.moveSilenceRefs.watch = s.watch := by
  refine State.watch_ext (fun p => ?_) fun _ _ _ => rfl
  rw [show s.moveSilenceRefs.wheel p = _ from State.tabulate_wheel s _ p]
  dsimp only
  split <;> rfl

end

/-! ### Conditions that turn -/

/-- The flag that a condition sets when it turns active or inactive (R109). -/
def alertFlag : Bool → EventFlag
  | true => .alertRaised
  | false => .alertCleared

theorem alertFlag_watches (on : Bool) : (alertFlag on).watches = true := by cases on <;> rfl

/-- A condition has turned active, or inactive, between two states. -/
def Machine.State.Turns (s t : State) (on : Bool) (p : Pos) (k : Condition) : Prop :=
  s.active p k = (!on) ∧ t.active p k = on

theorem Machine.State.Turns.congr {s s' t t' : State} (before : ∀ p k, s'.active p k = s.active p k)
    (after : ∀ p k, t'.active p k = t.active p k) {on : Bool} {p : Pos} {k : Condition} :
    s'.Turns t' on p k ↔ s.Turns t on p k := by
  unfold State.Turns
  rw [before, after]

/-- What has not turned on the way over a state between has not turned. -/
theorem Machine.State.Turns.split {s u t : State} {on : Bool} {p : Pos} {k : Condition} (h : s.Turns t on p k) :
    s.Turns u on p k ∨ u.Turns t on p k := by
  obtain ⟨before, after⟩ := h
  by_cases between : u.active p k = on
  · exact .inl ⟨before, between⟩
  · exact .inr ⟨Bool.eq_not_of_ne between, after⟩

/-- Every condition that has turned has set its flag, and flags that were set are still. -/
structure Machine.State.Tells (s t : State) : Prop where
  grows : ∀ q f, (s.port q).flag f = true → (t.port q).flag f = true
  told : ∀ on p k, s.Turns t on p k → Claims.Flagged t (alertFlag on)

namespace Machine.State.Tells

theorem of_same {s t : State} (same : ∀ p k, t.active p k = s.active p k)
    (grows : ∀ q f, (s.port q).flag f = true → (t.port q).flag f = true) : s.Tells t where
  grows := grows
  told on p k h := by
    have stays := h.2.symm.trans ((same p k).trans h.1)
    cases on <;> cases stays

theorem refl (s : State) : s.Tells s := of_same (fun _ _ => rfl) fun _ _ h => h

theorem trans {s u t : State} (h : s.Tells u) (g : u.Tells t) : s.Tells t where
  grows q f on := g.grows q f (h.grows q f on)
  told on p k turns := by
    rcases turns.split (u := u) with first | second
    · exact fun q => g.grows q _ (h.told on p k first q)
    · exact g.told on p k second

theorem of_grown {s t : State} (same : ∀ p k, t.active p k = s.active p k) (grown : t.Grown s) : s.Tells t :=
  of_same same fun _ _ h => grown.flag h

theorem setFlagBoth (s : State) (f : EventFlag) : s.Tells (s.setFlagBoth f) :=
  of_same (fun _ _ => rfl) fun q g on => by rw [State.setFlagBoth_flag, on, Bool.true_or]

theorem foldl {β : Type} {f : State → β → State} (h : ∀ (s : State) b, s.Tells (f s b)) (l : List β) (s : State) : s.Tells (l.foldl f s) :=
  foldl_keeps s.Tells f (fun t b told => told.trans (h t b)) l s (.refl s)

end Machine.State.Tells

open Machine.State (Tells)

theorem Machine.State.raiseCond_flagged {s : State} {p : Pos} {k : Condition} (off : s.active p k = false) :
    Claims.Flagged (s.raiseCond p k) .alertRaised := by
  unfold State.raiseCond
  rw [if_neg (by rw [off]; decide)]
  exact Claims.flagged_setFlagBoth _ _

theorem Machine.State.clearCond_flagged {s : State} {p : Pos} {k : Condition} (on : s.active p k = true) :
    Claims.Flagged (s.clearCond p k) .alertCleared := by
  unfold State.clearCond
  rw [if_pos on]
  exact Claims.flagged_setFlagBoth _ _

/-- A raising turns its own condition active and no other. -/
theorem Machine.State.raiseCond_turns {s : State} {p q : Pos} {k j : Condition} {on : Bool}
    (h : s.Turns (s.raiseCond p k) on q j) : on = true ∧ q = p ∧ j = k := by
  obtain ⟨before, after⟩ := h
  rw [State.raiseCond_active] at after
  by_cases own : p = q ∧ k = j
  · rw [if_pos own] at after
    exact ⟨after.symm, own.1.symm, own.2.symm⟩
  · rw [if_neg own, before] at after
    cases on <;> cases after

theorem Machine.State.clearCond_turns {s : State} {p q : Pos} {k j : Condition} {on : Bool}
    (h : s.Turns (s.clearCond p k) on q j) : on = false ∧ q = p ∧ j = k := by
  obtain ⟨before, after⟩ := h
  rw [State.clearCond_active] at after
  by_cases own : p = q ∧ k = j
  · rw [if_pos own] at after
    exact ⟨after.symm, own.1.symm, own.2.symm⟩
  · rw [if_neg own, before] at after
    cases on <;> cases after

theorem Machine.State.raiseCond_tells (s : State) (p : Pos) (k : Condition) : s.Tells (s.raiseCond p k) where
  grows _ _ h := (s.raiseCond_grown p k).flag h
  told on q j h := by
    obtain ⟨rfl, rfl, rfl⟩ := State.raiseCond_turns h
    exact State.raiseCond_flagged h.1

theorem Machine.State.clearCond_tells (s : State) (p : Pos) (k : Condition) : s.Tells (s.clearCond p k) where
  grows _ _ h := (s.clearCond_grown p k).flag h
  told on q j h := by
    obtain ⟨rfl, rfl, rfl⟩ := State.clearCond_turns h
    exact State.clearCond_flagged h.1

theorem Machine.State.modWheel_active (s : State) (p : Pos) {f : WheelRecord → WheelRecord}
    (kept : (f (s.wheel p)).conditions = (s.wheel p).conditions) (q : Pos) (k : Condition) :
    (s.modWheel p f).active q k = s.active q k := by
  unfold State.active
  rw [State.modWheel_wheel]
  split
  · next here => rw [kept, here]
  · rfl

theorem Machine.State.modWheel_tells (s : State) (p : Pos) {f : WheelRecord → WheelRecord}
    (kept : (f (s.wheel p)).conditions = (s.wheel p).conditions) : s.Tells (s.modWheel p f) :=
  .of_grown (s.modWheel_active p kept) (s.modWheel_grown p f)

theorem Machine.State.Stages.tells {p : Pos} {s t : State} (h : Stages p s t) : s.Tells t := by
  induction h with
  | refl => exact .refl s
  | raise k _ _ ih => exact ih.trans (State.raiseCond_tells _ p k)
  | clear k _ _ ih => exact ih.trans (State.clearCond_tells _ p k)
  | write f kept _ _ ih => exact ih.trans (State.modWheel_tells _ p (kept _))

theorem Machine.State.Clears.tells {s t : State} (h : Clears s t) : s.Tells t := by
  induction h with
  | refl => exact .refl s
  | clear p k _ ih => exact ih.trans (State.clearCond_tells _ p k)

theorem Machine.State.raisePair_tells (s : State) (p : Pos) : s.Tells (s.raisePair p) :=
  (s.raiseCond_tells p.pairLow .imbalance).trans (State.raiseCond_tells _ p.pairHigh .imbalance)

end Sys2Proof

/-! ## Flags that only a condition that turned has set -/

namespace Sys2Proof
open Machine Safety
open Machine.State (Stages Clears Tells)

/-- A step that turns conditions of a set at most, and sets ALERT_RAISED and ALERT_CLEARED only for a condition that it does
turn; WHEEL it leaves. -/
structure Machine.State.Turning (D : Bool → Pos → Condition → Prop) (s t : State) : Prop where
  within : ∀ on p k, s.Turns t on p k → D on p k
  flag : ∀ on q, (t.port q).flag (alertFlag on) = true → (s.port q).flag (alertFlag on) = true ∨ ∃ p k, s.Turns t on p k
  wheel : ∀ q, (t.port q).flag .wheel = true → (s.port q).flag .wheel = true

namespace Machine.State.Turning

variable {D E : Bool → Pos → Condition → Prop} {s u t : State}

theorem of_same (same : ∀ p k, t.active p k = s.active p k)
    (flags : ∀ q f, f.watches = true → (t.port q).flag f = true → (s.port q).flag f = true) : Turning D s t where
  within on p k h := by
    have stays := h.2.symm.trans ((same p k).trans h.1)
    cases on <;> cases stays
  flag on q h := .inl (flags q _ (alertFlag_watches on) h)
  wheel q h := flags q .wheel rfl h

theorem refl (s : State) : Turning D s s := of_same (fun _ _ => rfl) fun _ _ _ h => h

theorem of_watch (h : t.watch = s.watch) : Turning D s t :=
  of_same (State.active_of_watch h) fun q _ watched on => (State.flag_of_watch h q watched).symm.trans on

theorem mono (h : Turning D s t) (wider : ∀ on p k, D on p k → E on p k) : Turning E s t :=
  { h with within := fun on p k turns => wider on p k (h.within on p k turns) }

/-- Two steps of which the second turns nothing back: what one has turned stays turned, so its flag is no surplus. -/
theorem append (h : Turning D s u) (g : Turning E u t) (apart : ∀ on p k, D on p k → ¬ E (!on) p k) :
    Turning (fun on p k => D on p k ∨ E on p k) s t where
  within on p k turns := turns.split.imp (h.within on p k) (g.within on p k)
  flag on q set := by
    rcases g.flag on q set with set | ⟨p, k, turns⟩
    · rcases h.flag on q set with set | ⟨p, k, turns⟩
      · exact .inl set
      · refine .inr ⟨p, k, turns.1, ?_⟩
        by_contra back
        have undone : u.Turns t (!on) p k := ⟨by rw [turns.2, Bool.not_not], Bool.eq_not_of_ne back⟩
        exact apart on p k (h.within on p k turns) (g.within _ p k undone)
    · refine .inr ⟨p, k, ?_, turns.2⟩
      by_contra held
      have undone : s.Turns u (!on) p k := ⟨by rw [Bool.not_not]; exact Bool.not_eq_not.1 held, turns.1⟩
      refine apart (!on) p k (h.within _ p k undone) ?_
      rw [Bool.not_not]
      exact g.within on p k turns
  wheel q set := h.wheel q (g.wheel q set)

/-- Steps of one set that holds no condition both ways. -/
theorem trans (h : Turning D s u) (g : Turning D u t) (apart : ∀ on p k, D on p k → ¬ D (!on) p k) : Turning D s t :=
  (h.append g apart).mono fun _ _ _ both => both.elim id id

/-- A step that turns nothing, before or after. -/
theorem then_same (h : Turning D s u) (g : Turning (fun _ _ _ => False) u t) : Turning D s t :=
  (h.append g fun _ _ _ _ no => no).mono fun _ _ _ both => both.elim id False.elim

theorem after_same (h : Turning (fun _ _ _ => False) s u) (g : Turning D u t) : Turning D s t :=
  (h.append g fun _ _ _ no => no.elim).mono fun _ _ _ both => both.elim False.elim id

end Machine.State.Turning

open Machine.State (Turning)

/-! ### Single conditions -/

theorem Machine.State.flag_of_setFlagBoth {s : State} {q : PortId} {f g : EventFlag} (h : ((s.setFlagBoth f).port q).flag g = true) :
    (s.port q).flag g = true ∨ f = g := by
  rw [State.setFlagBoth_flag, Bool.or_eq_true, beq_iff_eq] at h
  exact h

theorem Machine.State.raiseCond_turning (s : State) (p : Pos) (k : Condition) :
    Turning (fun on q j => on = true ∧ q = p ∧ j = k) s (s.raiseCond p k) where
  within _ _ _ h := State.raiseCond_turns h
  flag on q h := by
    by_cases off : s.active p k = true
    · rw [State.raiseCond, if_pos off] at h
      exact .inl h
    · have turned : (s.raiseCond p k).active p k = true := by rw [State.raiseCond_active, if_pos ⟨rfl, rfl⟩]
      rw [State.raiseCond, if_neg off] at h
      rcases State.flag_of_setFlagBoth h with set | same
      · exact .inl set
      · cases on
        · cases same
        · exact .inr ⟨p, k, by simpa using off, turned⟩
  wheel q h := by
    unfold State.raiseCond at h
    split at h
    · exact h
    · exact (State.flag_of_setFlagBoth h).resolve_right nofun

theorem Machine.State.clearCond_turning (s : State) (p : Pos) (k : Condition) :
    Turning (fun on q j => on = false ∧ q = p ∧ j = k) s (s.clearCond p k) where
  within _ _ _ h := State.clearCond_turns h
  flag on q h := by
    by_cases held : s.active p k = true
    · have turned : (s.clearCond p k).active p k = false := by rw [State.clearCond_active, if_pos ⟨rfl, rfl⟩]
      rw [State.clearCond, if_pos held] at h
      rcases State.flag_of_setFlagBoth h with set | same
      · exact .inl set
      · cases on
        · exact .inr ⟨p, k, held, turned⟩
        · cases same
    · rw [State.clearCond, if_neg held] at h
      exact .inl h
  wheel q h := by
    unfold State.clearCond at h
    split at h
    · exact (State.flag_of_setFlagBoth h).resolve_right nofun
    · exact h

theorem Machine.State.modWheel_turning {D : Bool → Pos → Condition → Prop} (s : State) (p : Pos) {f : WheelRecord → WheelRecord}
    (kept : (f (s.wheel p)).conditions = (s.wheel p).conditions) : Turning D s (s.modWheel p f) :=
  .of_same (s.modWheel_active p kept) fun _ _ _ h => h

/-- Clearings alone turn nothing active. -/
theorem Machine.State.Clears.turning {s t : State} (h : Clears s t) : Turning (fun on _ _ => on = false) s t := by
  induction h with
  | refl => exact .refl s
  | clear p k _ ih =>
    exact ih.trans ((State.clearCond_turning _ p k).mono fun _ _ _ h => h.1) fun on _ _ h g => by rw [h] at g; cases g

/-! ### Bands (R87, R88) -/

theorem Machine.State.clearOpt_turning (s : State) (p : Pos) (k : Option Condition) :
    Turning (fun on q j => on = false ∧ q = p ∧ k = some j) s (s.clearOpt p k) := by
  cases k with
  | none => exact .refl s
  | some k => exact (s.clearCond_turning p k).mono fun _ _ _ ⟨off, here, same⟩ => ⟨off, here, congrArg some same.symm⟩

theorem Machine.State.raiseOpt_turning (s : State) (p : Pos) (k : Option Condition) :
    Turning (fun on q j => on = true ∧ q = p ∧ k = some j) s (s.raiseOpt p k) := by
  cases k with
  | none => exact .refl s
  | some k => exact (s.raiseCond_turning p k).mono fun _ _ _ ⟨on, here, same⟩ => ⟨on, here, congrArg some same.symm⟩

/-- One condition given up for another at a wheel. -/
def Exchanges (p : Pos) (old new : Option Condition) (on : Bool) (q : Pos) (k : Condition) : Prop :=
  q = p ∧ (if on then new else old) = some k

/-- A condition cleared and another raised, with a field written between. -/
theorem Machine.State.exchange_turning (s : State) (p : Pos) {f : WheelRecord → WheelRecord}
    (kept : ∀ r, (f r).conditions = r.conditions) {old new : Option Condition} (apart : ∀ k, old = some k → new ≠ some k) :
    Turning (Exchanges p old new) s (((s.clearOpt p old).modWheel p f).raiseOpt p new) := by
  refine (((s.clearOpt_turning p old).then_same (State.modWheel_turning _ p (kept _))).append
    (State.raiseOpt_turning _ p new) fun on q k h g => apart k h.2.2 g.2.2).mono fun on q k h => ?_
  rcases h with ⟨rfl, here, same⟩ | ⟨rfl, here, same⟩ <;> exact ⟨here, same⟩

theorem Machine.Band.condition_inj {b z : Band} {k : Condition} (hb : b.condition = some k) (hz : z.condition = some k) : b = z := by
  cases b <;> cases hb <;> cases z <;> cases hz <;> rfl

theorem Machine.TempBand.condition_inj {b z : TempBand} {k : Condition} (hb : b.condition = some k) (hz : z.condition = some k) :
    b = z := by
  cases b <;> cases hb <;> cases z <;> cases hz <;> rfl

theorem Machine.State.setBand_turning (s : State) (p : Pos) {z : Band} (moves : z ≠ (s.wheel p).band) :
    Turning (Exchanges p (s.wheel p).band.condition z.condition) s (s.setBand p z) :=
  s.exchange_turning p (f := fun r => { r with band := z }) (fun _ => rfl) fun _ hb hz => moves (Band.condition_inj hz hb)

theorem Machine.Pending.count1_floor (q : Pending) (z : Band) :
    ∃ z', (q.count1 z).floor = some z' ∧ (z' = z ∨ q.floor = some z') := by
  unfold Pending.count1
  split
  · cases floor : q.floor with
    | none => exact ⟨z, rfl, .inl rfl⟩
    | some f =>
      refine ⟨f.nearerOk z, rfl, ?_⟩
      unfold Band.nearerOk
      split
      · exact .inr rfl
      · exact .inl rfl
  · exact ⟨z, rfl, .inl rfl⟩

/-- Steps 4 and 5 take one band at most, and one that asks for a move away from the band. -/
theorem raiseStep_bands (confirm : Option Nat) {b : Band} {q : Pending} (z : Band)
    (floor : confirm ≠ none → ∀ f, q.floor = some f → f.raiseCandidate b = true) :
    (raiseStep confirm b q z).1 = [] ∨ ∃ z' : Band, z'.raiseCandidate b = true
      ∧ (z' = z ∨ q.floor = some z') ∧ (raiseStep confirm b q z).1 = [z'] := by
  by_cases up : z.raiseCandidate b = true
  · cases confirm with
    | none => exact .inr ⟨z, up, .inl rfl, by rw [raiseStep_reevaluation q up]⟩
    | some n =>
      obtain ⟨z', taken, own⟩ := q.count1_floor z
      unfold raiseStep
      rw [if_pos up]
      dsimp only
      rw [taken]
      split
      · exact .inr ⟨z', own.elim (fun same => same ▸ up) (floor nofun z'), own, rfl⟩
      · exact .inl rfl
  · exact .inl (by rw [raiseStep_stays confirm q up])

theorem Machine.Band.ne_of_raiseCandidate {z b : Band} (h : z.raiseCandidate b = true) : z ≠ b := by
  obtain ⟨off, away⟩ := (Band.raiseCandidate_iff z b).1 h
  rintro rfl
  rcases away with ok | ⟨_, farther⟩
  · exact off ok
  · exact absurd farther (lt_irrefl _)

theorem Machine.Band.ne_of_betweenOk {z b : Band} (h : z.betweenOk b = true) : z ≠ b := by
  rintro rfl
  rw [Band.betweenOk_iff] at h
  omega

/-- The bands that a step takes, in turn: none, one other than the band held, or OK and then another one (R85). -/
theorem bandStep_bands (l : Levels) (confirm : Option Nat) {b : Band} {q : Pending} (p : Int)
    (floor : confirm ≠ none → ∀ f, q.floor = some f → f.raiseCandidate b = true) :
    (bandStep l confirm b q p).1 = [] ∨ ∃ z, z ≠ b ∧ ((bandStep l confirm b q p).1 = [z]
      ∨ (b ≠ .ok ∧ z ≠ .ok ∧ (bandStep l confirm b q p).1 = [.ok, z])) := by
  by_cases same : l.rawZone p = b
  · exact .inl (by rw [bandStep_equal same])
  by_cases improves : b ≠ .ok ∧ (l.releaseZone p = .ok ∨ (l.releaseZone p).betweenOk b = true)
  · refine .inr ⟨l.releaseZone p, ?_, .inl (by rw [bandStep_improves same improves.1 improves.2])⟩
    rcases improves.2 with ok | between
    · rw [ok]
      exact improves.1.symm
    · exact Band.ne_of_betweenOk between
  by_cases across : (l.releaseZone p).otherSide b = true
  · have off := ((Band.otherSide_iff _ _).1 across).1
    rw [bandStep_crosses same improves across]
    rcases raiseStep_bands confirm (b := .ok) (q := .clear) (l.rawZone p) fun _ => nofun with none | ⟨z, up, own, one⟩
    · exact .inr ⟨.ok, off.symm, .inl (by rw [none])⟩
    · obtain rfl := own.resolve_right nofun
      exact .inr ⟨_, same, .inr ⟨off, Band.ne_of_raiseCandidate up, by rw [one]⟩⟩
  · rw [bandStep_raises same improves across]
    exact (raiseStep_bands confirm (l.rawZone p) floor).imp_right fun ⟨z, up, _, one⟩ => ⟨z, Band.ne_of_raiseCandidate up, .inl one⟩

/-- A record's pending floor asks for a move away from its band (R86), as CountLaw says of every record. -/
def Machine.WheelRecord.FloorAway (r : WheelRecord) : Prop := ∀ z, r.pending.floor = some z → z.raiseCandidate r.band = true

/-- The conditions of a band turn at one wheel. -/
def BandTurns (p : Pos) (_ : Bool) (q : Pos) (k : Condition) : Prop := q = p ∧ ∃ b : Band, b.condition = some k

theorem Exchanges.bandTurns {p : Pos} {b z : Band} {on : Bool} {q : Pos} {k : Condition}
    (h : Exchanges p b.condition z.condition on q k) : BandTurns p on q k := by
  obtain ⟨here, same⟩ := h
  cases on
  · exact ⟨here, b, same⟩
  · exact ⟨here, z, same⟩

/-- The pressure band step turns the conditions of the band left and of the band reached, and none twice (R87). -/
theorem Machine.State.judgePressure_turning {s : State} {p : Pos} {n : Option Nat} (away : n ≠ none → (s.wheel p).FloorAway)
    (c : Int) :
    Turning (BandTurns p) s (s.judgePressure p n c) := by
  have bands := bandStep_bands (s.levelsOf p.axle) n c away
  have written (t : State) (q : Pending) : Turning (fun _ _ _ => False) t (t.modWheel p fun r => { r with pending := q }) :=
    t.modWheel_turning p rfl
  unfold State.judgePressure
  refine Turning.then_same ?_ (written _ _)
  rcases bands with none | ⟨z, moves, one | ⟨off, reached, two⟩⟩
  · rw [none]
    exact .refl s
  · rw [one]
    exact (s.setBand_turning p moves).mono fun _ _ _ => Exchanges.bandTurns
  · rw [two]
    have first := s.setBand_turning p (z := .ok) off.symm
    have band : ((s.setBand p .ok).wheel p).band = .ok := by rw [State.setBand_wheel, if_pos rfl]
    have second := (s.setBand p .ok).setBand_turning p (z := z) (by rw [band]; exact reached)
    rw [band] at second
    refine (first.append second fun on q k h g => ?_).mono fun on q k h => h.elim Exchanges.bandTurns Exchanges.bandTurns
    cases on
    · exact moves (Band.condition_inj g.2 h.2)
    · cases h.2

/-- The conditions of a temperature band turn at one wheel. -/
def TempTurns (p : Pos) (_ : Bool) (q : Pos) (k : Condition) : Prop := q = p ∧ ∃ b : TempBand, b.condition = some k

theorem Machine.State.judgeTemp_turning (s : State) (p : Pos) (tc : BitVec 8) : Turning (TempTurns p) s (s.judgeTemp p tc) := by
  unfold State.judgeTemp
  split
  · exact .refl s
  · dsimp only
    split
    · exact .refl s
    · next stays =>
      refine Turning.mono (s.exchange_turning p ?_ fun k hb hm => stays (TempBand.condition_inj hm hb)) fun on q k h => ?_
      · exact fun _ => rfl
      · cases on
        · exact ⟨h.1, _, h.2⟩
        · exact ⟨h.1, _, h.2⟩

/-! ### Leak, imbalance, acceptance -/

/-- One kind of condition turns, at any wheel. -/
def KindTurns (kind : Condition) (_ : Bool) (_ : Pos) (k : Condition) : Prop := k = kind

theorem Machine.State.judgeLeak_turning (s : State) (p : Pos) (alert : Bool) (limit rate : Int) :
    Turning (KindTurns .leak) s (s.judgeLeak p alert limit rate) := by
  have counted (n : Nat) : Turning (fun _ _ _ => False) s (s.modWheel p fun r => { r with leakCount := n }) :=
    s.modWheel_turning p rfl
  simp only [State.judgeLeak]
  split
  · generalize (if alert = true then 2 else min 2 ((s.wheel p).leakCount + 1)) = n
    split
    · exact (counted n).after_same ((State.raiseCond_turning _ p .leak).mono fun _ _ _ h => h.2.2)
    · exact (counted n).mono fun _ _ _ => False.elim
  · split
    · exact (counted 0).after_same ((State.clearCond_turning _ p .leak).mono fun _ _ _ h => h.2.2)
    · exact .refl s

theorem Machine.State.leakStep_turning (s : State) (p : Pos) (alert : Bool) (cold : Int) (arrival : Uptime) :
    Turning (KindTurns .leak) s (s.leakStep p alert cold arrival) := by
  unfold State.leakStep
  split
  · exact s.modWheel_turning p rfl
  · dsimp only
    split
    · exact .refl s
    · have judged (rate limit : Int) : Turning (KindTurns .leak) s
          ((s.modWheel p fun r => { r with leakRate := some rate }).judgeLeak p alert limit rate) :=
        (s.modWheel_turning p rfl).after_same (State.judgeLeak_turning _ p alert limit rate)
      split
      · exact (judged _ _).then_same (State.modWheel_turning _ p rfl)
      · exact judged _ _

/-- IMBALANCE of one pair turns. -/
def PairTurns (p : Pos) (_ : Bool) (q : Pos) (k : Condition) : Prop := (q = p.pairLow ∨ q = p.pairHigh) ∧ k = .imbalance

theorem Machine.State.raisePair_turning (s : State) (p : Pos) :
    Turning (fun on q k => on = true ∧ (q = p.pairLow ∨ q = p.pairHigh) ∧ k = .imbalance) s (s.raisePair p) := by
  have low := (s.raiseCond_turning p.pairLow .imbalance).append
    (State.raiseCond_turning (s.raiseCond p.pairLow .imbalance) p.pairHigh .imbalance)
    fun on q k h g => by rw [h.1] at g; cases g.1
  exact low.mono fun on q k h => h.elim (fun h => ⟨h.1, .inl h.2.1, h.2.2⟩) fun h => ⟨h.1, .inr h.2.1, h.2.2⟩

theorem Machine.State.clearPair_turning (s : State) (p : Pos) :
    Turning (fun on q k => on = false ∧ (q = p.pairLow ∨ q = p.pairHigh) ∧ k = .imbalance) s (s.clearPair p) := by
  unfold State.clearPair
  split
  · have low := (s.clearCond_turning p.pairLow .imbalance).append
      (State.clearCond_turning (s.clearCond p.pairLow .imbalance) p.pairHigh .imbalance)
      fun on q k h g => by rw [h.1] at g; cases g.1
    exact low.mono fun on q k h => h.elim (fun h => ⟨h.1, .inl h.2.1, h.2.2⟩) fun h => ⟨h.1, .inr h.2.1, h.2.2⟩
  · exact .refl s

theorem Machine.State.checkPair_turning (s : State) (p : Pos) : Turning (PairTurns p) s (s.checkPair p) := by
  unfold State.checkPair
  split
  · split
    · dsimp only
      split
      · exact (s.raisePair_turning p).mono fun _ _ _ h => h.2
      · split
        · exact (s.clearPair_turning p).mono fun _ _ _ h => h.2
        · exact .refl s
    · exact .refl s
  · exact .refl s

theorem Machine.State.acceptEntry_turning (s : State) (p : Pos) (e : QueueEntry) :
    Turning (KindTurns .silent) s (s.acceptEntry p e) := by
  have accepted : Turning (fun _ _ _ => False) s (s.modWheel p fun r => r.accept e s.uptime) :=
    s.modWheel_turning p (by unfold WheelRecord.accept WheelRecord.acceptRssi; cases e.channel <;> rfl)
  simp only [State.acceptEntry]
  split
  · exact accepted.after_same ((State.clearCond_turning _ p .silent).mono fun _ _ _ h => h.2.2)
  · exact accepted.mono fun _ _ _ => False.elim

theorem Machine.State.acceptFault_turning (s : State) (p : Pos) (e : QueueEntry) :
    Turning (fun _ _ _ => True) s (s.acceptFault p e) := by
  have fault := (s.raiseCond_turning p .sensorFault).then_same
    (State.modWheel_turning _ p (f := fun r => { r with faultCode := faultCodeOf e.telegram.tempCode }) rfl)
  exact (fault.append (State.acceptEntry_turning _ p e) fun _ _ _ h g => by rw [h.2.2] at g; cases g).mono
    fun _ _ _ _ => trivial

end Sys2Proof

/-! ## Which conditions the events on wheels turn -/

namespace Sys2Proof
open Machine Safety
open Machine.State (Stages Clears Tells Turning)

/-! ### An entry that is read -/

/-- Kinds that may turn, at any wheel. -/
def Among (ks : List Condition) (_ : Bool) (_ : Pos) (k : Condition) : Prop := k ∈ ks

theorem Machine.State.Turning.among {s t : State} {D : Bool → Pos → Condition → Prop} {ks : List Condition} (h : Turning D s t)
    (kinds : ∀ on p k, D on p k → k ∈ ks) : Turning (Among ks) s t := h.mono kinds

/-- Steps on different kinds of condition. -/
theorem Machine.State.Turning.next {s u t : State} {ks js : List Condition} (h : Turning (Among ks) s u)
    (g : Turning (Among js) u t) (apart : ∀ k ∈ ks, k ∉ js) : Turning (Among (ks ++ js)) s t :=
  (h.append g fun _ _ k => apart k).among fun _ _ _ => List.mem_append.2

theorem Machine.State.readCodes_turning (s : State) (p : Pos) (t : Telegram) :
    Turning (Among [.batteryLow, .sensorFault]) s (s.readCodes p t) := by
  have codes : Turning (Among []) s (s.modWheel p fun r =>
      { r with pressureCode := some t.pressureCode, tempCode := some t.tempCode, batteryLow := t.batteryLow }) :=
    s.modWheel_turning p rfl
  have battery (u : State) : Turning (Among [.batteryLow]) u
      (if t.batteryLow then u.raiseCond p .batteryLow else u.clearCond p .batteryLow) := by
    split
    · exact (u.raiseCond_turning p .batteryLow).among fun _ _ _ h => List.mem_singleton.2 h.2.2
    · exact (u.clearCond_turning p .batteryLow).among fun _ _ _ h => List.mem_singleton.2 h.2.2
  have fault (u : State) : Turning (Among [.sensorFault]) u (if t.pressureCode.toNat = 511 ∧ t.tempCode.toNat = 255 then u
      else if u.active p .sensorFault then (u.clearCond p .sensorFault).modWheel p fun r => { r with faultCode := none }
      else u) := by
    split
    · exact .refl u
    · split
      · exact ((u.clearCond_turning p .sensorFault).then_same (State.modWheel_turning _ p rfl)).among
          fun _ _ _ h => List.mem_singleton.2 h.2.2
      · exact .refl u
  exact (codes.next (battery _) (by decide)).next (fault _) (by decide)

theorem Machine.State.acceptReading_turning {s : State} {p : Pos} (away : (s.wheel p).FloorAway) (e : QueueEntry) :
    Turning (fun _ _ _ => True) s (s.acceptReading p e) := by
  have still : (((s.readCodes p e.telegram).compensate p e.telegram).wheel p).FloorAway := by
    rw [State.compensate_wheel, State.readCodes_wheel]
    exact away
  have compensated (u : State) : Turning (Among []) u (u.compensate p e.telegram) := u.modWheel_turning p rfl
  have pressed (n : Nat) (c : Int) := ((State.judgePressure_turning (n := some n) fun _ => still) c).among
    (ks := [.lowWarn, .lowAlarm, .highWarn]) fun _ _ k ⟨_, b, h⟩ => by cases b <;> cases h <;> decide
  have heated (u : State) := (u.judgeTemp_turning p e.telegram.tempCode).among
    (ks := [.hotWarn, .hotAlarm]) fun _ _ k ⟨_, b, h⟩ => by cases b <;> cases h <;> decide
  have leaked (u : State) (c : Int) := (u.leakStep_turning p (e.telegram.kind == .alert) c e.arrival).among
    (ks := [.leak]) fun _ _ _ => List.mem_singleton.2
  have accepted (u : State) := (u.acceptEntry_turning p e).among (ks := [.silent]) fun _ _ _ => List.mem_singleton.2
  have paired (u : State) := (u.checkPair_turning p).among (ks := [.imbalance]) fun _ _ _ h => List.mem_singleton.2 h.2
  have cold := pressed e.telegram.kind.confirmation (s.coldOf p e.telegram)
  have steps := (((((s.readCodes_turning p e.telegram).next (compensated _) (by decide)).next cold (by decide)).next
    (heated _) (by decide)).next (leaked _ (s.coldOf p e.telegram)) (by decide)).next (accepted _) (by decide)
  exact (steps.next (paired _) (by decide)).mono fun _ _ _ _ => trivial

theorem Machine.State.noteRssi_turning (s : State) (p : Pos) (e : QueueEntry) :
    Turning (fun _ _ _ => True) s (s.noteRssi p e) := by
  unfold State.noteRssi
  split
  · exact .refl s
  · exact s.modWheel_turning p (State.conditions_of_judged (judged_recordRssi _ _ _))

theorem Machine.State.readEntry_turning {s : State} (away : ∀ p, (s.wheel p).FloorAway) (e : QueueEntry) :
    Turning (fun _ _ _ => True) s (s.readEntry e) := by
  unfold State.readEntry State.applyEntry
  split
  · split
    · split
      · exact s.acceptFault_turning _ e
      · exact State.acceptReading_turning (away _) e
    · exact s.noteRssi_turning _ e
  · exact .refl s

/-! ### Re-evaluation (R96) -/

/-- Steps that turn conditions of sets that have none in common, over a list. -/
theorem Machine.State.Turning.foldl {β : Type} {D : β → Bool → Pos → Condition → Prop} {f : State → β → State}
    (one : ∀ (s : State) b, Turning (D b) s (f s b)) :
    ∀ (l : List β) (s : State), l.Pairwise (fun b c => ∀ on p k, D b on p k → ¬ D c (!on) p k) →
      Turning (fun on p k => ∃ b ∈ l, D b on p k) s (l.foldl f s)
  | [], s, _ => .refl s
  | b :: l, s, apart => by
    obtain ⟨here, later⟩ := List.pairwise_cons.1 apart
    refine ((one s b).append (foldl one l (f s b) later) fun on p k h ⟨c, mem, g⟩ => here c mem on p k h g).mono ?_
    rintro on p k (h | ⟨c, mem, h⟩)
    · exact ⟨b, List.mem_cons_self, h⟩
    · exact ⟨c, List.mem_cons_of_mem b mem, h⟩

/-- A re-evaluation confirms nothing, so it reads no pending floor (R97). -/
theorem Machine.State.reevaluateAt_turning (s : State) (p : Pos) : Turning (BandTurns p) s (s.reevaluateAt p) := by
  unfold State.reevaluateAt
  split
  · exact State.judgePressure_turning (n := none) (fun no => absurd rfl no) _
  · exact .refl s

theorem BandTurns.ne_imbalance {p q : Pos} {on : Bool} {k : Condition} (h : BandTurns p on q k) : k ≠ .imbalance := by
  rintro rfl
  obtain ⟨_, b, band⟩ := h
  cases b <;> cases band

/-- The bands of one axle's wheels come first, then one pair and then the other. -/
theorem Machine.State.reevaluateAxle_turning (s : State) (a : Fin 10) :
    Turning (fun _ p _ => p.axle = a) s (s.reevaluateAxle a) := by
  have bands : Turning (fun on q k => ∃ p ∈ axlePositions a, BandTurns p on q k) s
      (s.atEach (axlePositions a) State.reevaluateAt) :=
    Turning.foldl State.reevaluateAt_turning (axlePositions a) s
      ((axlePositions_nodup a).imp fun ne _ _ _ h g => ne (h.1.symm.trans g.1))
  have left := bands.append (State.checkPair_turning _ ⟨a, 0⟩) fun on q k ⟨p, _, h⟩ g => h.ne_imbalance g.2
  have apart (q : Pos) (one : q = Pos.pairLow ⟨a, 0⟩ ∨ q = Pos.pairHigh ⟨a, 0⟩) :
      ¬ (q = Pos.pairLow ⟨a, 2⟩ ∨ q = Pos.pairHigh ⟨a, 2⟩) := by
    rcases one with rfl | rfl <;> rintro (h | h) <;> exact absurd (congrArg (·.slot.val) h) (by simp [Pos.pairLow, Pos.pairHigh])
  refine (left.append (State.checkPair_turning _ ⟨a, 2⟩) ?_).mono ?_
  · rintro on q k (⟨p, _, h⟩ | h) g
    · exact h.ne_imbalance g.2
    · exact apart q h.1 g.1
  · rintro on q k ((⟨p, mem, rfl, _⟩ | ⟨rfl | rfl, _⟩) | ⟨rfl | rfl, _⟩)
    · exact (mem_axlePositions_iff _ _).1 mem
    all_goals rfl

theorem Machine.State.targetChange_turning (s : State) (f : Fin 10 → Bool) :
    Turning (fun _ _ _ => True) s (s.targetChange f) :=
  (Turning.foldl State.reevaluateAxle_turning _ s
    (((List.nodup_finRange 10).filter _).imp fun ne _ _ _ h g => ne (h.symm.trans g))).mono fun _ _ _ _ => trivial

/-! ### Silence, attaching and detaching -/

/-- What an expiry turns: SILENT active, IMBALANCE inactive (R94). -/
def SilenceTurns (on : Bool) (_ : Pos) (k : Condition) : Prop := k = if on then .silent else .imbalance

theorem Machine.State.expireAt_turning (s : State) (p : Pos) : Turning SilenceTurns s (s.expireAt p) := by
  have silent := Turning.after_same (s.modWheel_turning p (f := fun r => { r with state := .silent, stale := r.pCold.isSome }) rfl)
    (State.raiseCond_turning _ p .silent)
  refine (silent.append (State.clearPair_turning _ p) fun on q k h g => ?_).mono fun on q k h => ?_
  · rw [h.2.2] at g
    cases g.2.2
  · rcases h with ⟨rfl, _, rfl⟩ | ⟨rfl, _, rfl⟩ <;> rfl

theorem SilenceTurns.apart (on : Bool) (p : Pos) (k : Condition) (h : SilenceTurns on p k) : ¬ SilenceTurns (!on) p k := by
  intro back
  have both := h.symm.trans back
  cases on <;> cases both

theorem Machine.State.expireDue_turning (s : State) : Turning SilenceTurns s s.expireDue :=
  State.atEach_keeps (Turning SilenceTurns s) _ (fun t p h => by
    split
    · exact h.trans (t.expireAt_turning p) SilenceTurns.apart
    · exact h) s allPos (.refl s)

theorem Machine.State.attachAt_active (s : State) (p q : Pos) (k : Condition) : (s.attachAt p).active q k = s.active q k := by
  unfold State.attachAt
  split
  · exact s.modWheel_active p rfl q k
  · rfl

theorem Machine.State.atEach_turning {D : Bool → Pos → Condition → Prop} {f : State → Pos → State}
    (one : ∀ (t : State) p, Turning (fun _ _ _ => False) t (f t p)) (ps : List Pos) (s : State) : Turning D s (s.atEach ps f) :=
  State.atEach_keeps (Turning D s) f (fun t p h => h.then_same (one t p)) s ps (.refl s)

theorem Machine.State.attachTrailer_turning (s : State) : Turning (fun _ _ _ => True) s s.attachTrailer :=
  State.atEach_turning (fun t p => by
    unfold State.attachAt
    split
    · exact t.modWheel_turning p rfl
    · exact .refl t) allPos s

theorem Machine.State.detachAll_turning (s : State) (ps : List Pos) : Turning (fun on _ _ => on = false) s (s.detachAll ps) :=
  (s.clearRecords_clears _).turning.then_same (State.atEach_turning (fun t p => t.modWheel_turning p rfl) _ _)

/-! ### Every condition that turns is told -/

theorem Machine.State.checkPair_tells (s : State) (p : Pos) : s.Tells (s.checkPair p) := by
  unfold State.checkPair
  split
  · split
    · dsimp only
      split
      · exact s.raisePair_tells p
      · split
        · exact (s.clearPair_clears p).tells
        · exact .refl s
    · exact .refl s
  · exact .refl s

theorem Machine.State.acceptFault_tells (s : State) (p : Pos) (e : QueueEntry) : s.Tells (s.acceptFault p e) :=
  ((s.raiseCond_tells p .sensorFault).trans (State.modWheel_tells _ p rfl)).trans (State.acceptEntry_stages _ p e).tells

theorem Machine.State.readEntry_tells (s : State) (e : QueueEntry) : s.Tells (s.readEntry e) := by
  unfold State.readEntry State.applyEntry
  split
  · next p _ =>
    split
    · split
      · exact s.acceptFault_tells _ e
      · exact (s.readingJudged_stages p e).tells.trans (State.checkPair_tells _ p)
    · unfold State.noteRssi
      split
      · exact .refl s
      · exact s.modWheel_tells p (State.conditions_of_judged (judged_recordRssi _ _ _))
  · exact .refl s

theorem Machine.State.reevaluateAxle_tells (s : State) (a : Fin 10) : s.Tells (s.reevaluateAxle a) := by
  have one (t : State) (p : Pos) : t.Tells (t.reevaluateAt p) := by
    unfold State.reevaluateAt
    split
    · exact (t.judgePressure_stages p none _).tells
    · exact .refl t
  exact ((Tells.foldl one (axlePositions a) s).trans (State.checkPair_tells _ _)).trans (State.checkPair_tells _ _)

theorem Machine.State.targetChange_tells (s : State) (f : Fin 10 → Bool) : s.Tells (s.targetChange f) :=
  .foldl State.reevaluateAxle_tells _ s

theorem Machine.State.expireAt_tells (s : State) (p : Pos) : s.Tells (s.expireAt p) :=
  (Tells.trans (s.modWheel_tells p (f := fun r => { r with state := .silent, stale := r.pCold.isSome }) rfl)
    (State.raiseCond_tells _ p .silent)).trans (State.clearPair_clears _ p).tells

theorem Machine.State.expireDue_tells (s : State) : s.Tells s.expireDue :=
  State.atEach_keeps s.Tells _ (fun t p h => by
    split
    · exact h.trans (t.expireAt_tells p)
    · exact h) s allPos (.refl s)

theorem Machine.State.attachAt_tells (s : State) (p : Pos) : s.Tells (s.attachAt p) :=
  .of_same (s.attachAt_active p) fun q f on => by
    unfold State.attachAt
    split <;> exact on

theorem Machine.State.detachAll_tells (s : State) (ps : List Pos) : s.Tells (s.detachAll ps) :=
  (s.clearRecords_clears _).tells.trans (.foldl (fun t p => t.modWheel_tells p rfl) _ _)

/-! ### Treatments of map edits -/

theorem Machine.State.clearRecords_inactive (s : State) {ps : List Pos} {p : Pos} (mem : p ∈ ps) (k : Condition) :
    (s.clearRecords ps).active p k = false := by
  unfold State.active
  rw [State.clearRecords_wheel, if_pos mem]
  cases k <;> rfl

theorem Machine.State.emptyAll_tells (s : State) (ps : List Pos) : s.Tells (s.emptyAll ps) := by
  refine (s.clearRecords_clears ps).tells.trans 
    (.of_grown (fun p k => ?_) (foldl_grown State.blank (fun _ _ => .of_ports rfl rfl) ps _))
  show (s.emptyAll ps).active p k = _
  by_cases mem : p ∈ ps
  · rw [s.clearRecords_inactive mem, State.active, State.emptyAll_wheel, if_pos mem]
    cases k <;> rfl
  · rw [State.active, State.emptyAll_wheel, if_neg mem]
    rfl

theorem Machine.State.freshAt_tells (s : State) (p : Pos) (id : SensorId) : s.Tells (s.freshAt p id) := by
  have written (u : State) (r : WheelRecord) : ((u.setWheel p r).setSlot p (some id)).Grown u := .of_ports rfl rfl
  refine (s.clearRecords_clears [p]).tells.trans (.of_grown (fun q k => ?_) (written _ _))
  rw [State.active, State.freshAt_wheel]
  split
  · next same =>
    subst same
    rw [s.clearRecords_inactive List.mem_cons_self]
    cases k <;> rfl
  · rfl

theorem Machine.State.placeStaged_tells (s : State) (e : Pos × Option SensorId) : s.Tells (s.placeStaged e) := by
  unfold State.placeStaged
  split
  · exact .refl s
  · split
    · split
      · exact s.freshAt_tells _ _
      · exact (s.emptyAll_tells [_]).trans (State.freshAt_tells _ _ _)
    · exact s.freshAt_tells _ _

theorem Machine.State.unitChange_tells (s : State) (a : Fin 10) (old : AxleRecord) : s.Tells (s.unitChange a old) := by
  unfold State.unitChange
  split
  · split
    · exact s.detachAll_tells _
    · exact (Tells.foldl State.attachAt_tells (axlePositions a) s).trans
        (.foldl (fun t p => (t.clearPair_clears p).tells) (axlePositions a) _)
  · exact .refl s

end Sys2Proof

/-! ## Events that report what they judge -/

namespace Sys2Proof
open Machine Safety
open Machine.State (Stages Clears Tells Turning)
open Machine.Result (gives_next)

/-- Changes of records set WHEEL, and conditions that turn their alert flag (R74, R109). -/
structure Machine.State.Reports (s t : State) : Prop where
  wheel : ∀ p, (t.wheel p).judged ≠ (s.wheel p).judged → Claims.Flagged t .wheel
  alert : ∀ on p k, s.Turns t on p k → Claims.Flagged t (alertFlag on)

/-- None of the three flags is set without its cause. -/
structure Machine.State.Spares (s t : State) : Prop where
  wheel : ∀ q, (t.port q).flag .wheel = true → (s.port q).flag .wheel = true ∨ ∃ p, (t.wheel p).judged ≠ (s.wheel p).judged
  alert : ∀ on q, (t.port q).flag (alertFlag on) = true → (s.port q).flag (alertFlag on) = true ∨ ∃ p k, s.Turns t on p k

/-- An event whose flags follow the records. -/
structure Machine.State.Follows (s t : State) : Prop where
  reports : s.Reports t
  spares : s.Spares t

section
variable {s s' t t' u : State}

theorem Machine.State.Reports.congr (h : s.Reports t) (before : s'.watch = s.watch) (after : t'.watch = t.watch) :
    s'.Reports t' where
  wheel p changed q := by
    rw [State.judged_of_watch after, State.judged_of_watch before] at changed
    rw [State.flag_of_watch after q rfl]
    exact h.wheel p changed q
  alert on p k turns q := by
    rw [State.flag_of_watch after q (alertFlag_watches on)]
    exact h.alert on p k ((State.Turns.congr (State.active_of_watch before) (State.active_of_watch after)).1 turns) q

theorem Machine.State.Spares.congr (h : s.Spares t) (before : s'.watch = s.watch) (after : t'.watch = t.watch) :
    s'.Spares t' where
  wheel q set := by
    simp only [State.judged_of_watch after, State.judged_of_watch before, State.flag_of_watch before q (f := .wheel) rfl]
    rw [State.flag_of_watch after q rfl] at set
    exact h.wheel q set
  alert on q set := by
    simp only [State.Turns.congr (State.active_of_watch before) (State.active_of_watch after),
      State.flag_of_watch before q (alertFlag_watches on)]
    rw [State.flag_of_watch after q (alertFlag_watches on)] at set
    exact h.alert on q set

theorem Machine.State.Follows.congr (h : s.Follows t) (before : s'.watch = s.watch) (after : t'.watch = t.watch) :
    s'.Follows t' := ⟨h.reports.congr before after, h.spares.congr before after⟩

/-- Records that keep what is judged leave nothing to report. -/
theorem Machine.State.Reports.of_judged (same : ∀ p, (t.wheel p).judged = (s.wheel p).judged) : s.Reports t where
  wheel p changed := absurd (same p) changed
  alert on p k turns := by
    have stays : s.active p k = t.active p k := by
      unfold State.active
      rw [State.conditions_of_judged (same p)]
    have both := turns.1.symm.trans (stays.trans turns.2)
    cases on <;> cases both

theorem Machine.State.Follows.of_judged (same : ∀ p, (t.wheel p).judged = (s.wheel p).judged)
    (flags : ∀ q f, (t.port q).flag f = true → (s.port q).flag f = true) : s.Follows t :=
  ⟨.of_judged same, fun q set => .inl (flags q _ set), fun _ q set => .inl (flags q _ set)⟩

theorem Machine.State.Follows.refl (s : State) : s.Follows s := .of_judged (fun _ => rfl) fun _ _ set => set

/-- A state that the three flags see no difference in. -/
theorem Machine.State.Follows.of_watch (same : t.watch = s.watch) : s.Follows t := (Follows.refl s).congr rfl same

theorem Machine.State.Reports.of_watch (same : t.watch = s.watch) : s.Reports t := (Follows.of_watch same).reports

theorem Machine.State.noteWheels_active (b a : State) (p : Pos) (k : Condition) : (b.noteWheels a).active p k = a.active p k := by
  unfold State.active
  rw [State.wheel_of_wheels (State.noteWheels_wheels b a)]

theorem Machine.State.noteWheels_alertFlag (b a : State) (on : Bool) (q : PortId) :
    ((b.noteWheels a).port q).flag (alertFlag on) = (a.port q).flag (alertFlag on) := by
  unfold State.noteWheels State.setFlagIf
  split
  · rw [State.setFlagBoth_flag, beq_false_of_ne (by cases on <;> decide), Bool.or_false]
  · rfl

theorem Machine.State.Tells.reports (h : s.Tells u) : s.Reports (s.noteWheels u) where
  wheel p changed := by
    rw [State.wheel_of_wheels (State.noteWheels_wheels s u)] at changed
    exact State.noteWheels_flagged changed.symm
  alert on p k turns q := by
    rw [State.noteWheels_alertFlag]
    exact h.told on p k ((State.Turns.congr (fun _ _ => rfl) (State.noteWheels_active s u)).1 turns) q

theorem Machine.State.Turning.spares {D : Bool → Pos → Condition → Prop} (h : Turning D s u) : s.Spares (s.noteWheels u) where
  wheel q set := by
    by_cases same : ∀ p, (u.wheel p).judged = (s.wheel p).judged
    · rw [State.noteWheels_unjudged same] at set
      exact .inl (h.wheel q set)
    · obtain ⟨p, changed⟩ := not_forall.1 same
      exact .inr ⟨p, by rwa [State.wheel_of_wheels (State.noteWheels_wheels s u)]⟩
  alert on q set := by
    rw [State.noteWheels_alertFlag] at set
    simp only [State.Turns.congr (fun _ _ => rfl) (State.noteWheels_active s u)]
    exact h.flag on q set

/-- Judging that tells what it turns and nothing else, with WHEEL for what it changed. -/
theorem Machine.State.Follows.noteWheels {D : Bool → Pos → Condition → Prop} (told : s.Tells u) (turned : Turning D s u) :
    s.Follows (s.noteWheels u) := ⟨told.reports, turned.spares⟩

/-! ### Transactions -/

/-- What holds of a taken command and of every state that looks the same to the three flags holds of its transaction. -/
theorem Machine.State.transact_of (P : State → Prop) {q : PortId} {f : State → State} (quiet : ∀ u, u.watch = s.watch → P u)
    (taken : P (f s)) : P (s.transact q f) :=
  State.transact_cases P taken (quiet _ (s.setPort_watch q rfl))

theorem Machine.State.unlessLoading_of (P : State → Prop) {q : PortId} {f : State → State} (quiet : ∀ u, u.watch = s.watch → P u)
    (taken : P (f s)) : P (s.unlessLoading q f) := by
  refine State.transact_of P quiet ?_
  split
  · exact quiet _ (s.refuse_watch q _)
  · exact taken

theorem Machine.State.transact_watch {q : PortId} {f : State → State} (taken : (f s).watch = s.watch) :
    (s.transact q f).watch = s.watch := State.transact_of (·.watch = s.watch) (fun _ same => same) taken

theorem Machine.State.unlessLoading_watch {q : PortId} {f : State → State} (taken : (f s).watch = s.watch) :
    (s.unlessLoading q f).watch = s.watch := State.unlessLoading_of (·.watch = s.watch) (fun _ same => same) taken

end

/-! ### Commands that judge no wheel -/

section
variable (s : State)

theorem Machine.State.supplyToNormal_watch : s.supplyToNormal.watch = s.watch := by
  unfold State.supplyToNormal
  have timer (u : State) : u.moveTimerStart.watch = u.watch := by
    unfold State.moveTimerStart
    split <;> rfl
  have write (u : State) : u.beginPendingWrite.watch = u.watch := by
    unfold State.beginPendingWrite
    split <;> rfl
  rw [State.setFlagBoth_watch _ rfl, write, timer, State.moveSilenceRefs_watch]
  rfl

theorem Machine.State.judgeSample_watch (v : Nat) : (s.judgeSample v).watch = s.watch := by
  unfold State.judgeSample
  dsimp only
  split
  · split
    · exact State.setFlagBoth_watch { s with supply := { s.supply with state := .low, recovery := 0 } } rfl
    · rfl
  · split
    · split
      · rfl
      · exact s.supplyToNormal_watch
    · rfl

theorem Machine.State.completeTelegram_watch (ch : Channel) (rssi : Int) (bits : List Bool) :
    (s.completeTelegram ch rssi bits).watch = s.watch := by
  unfold State.completeTelegram State.offer
  split
  · split
    · rfl
    · exact State.setFlagBoth_watch { s with lostPending := true } rfl
  · rfl

theorem Machine.State.completeWrite_watch (i : Image) (ok : Bool) : (s.completeWrite i ok).watch = s.watch := by
  unfold State.completeWrite
  rw [State.setFlagBoth_watch _ rfl]
  split <;> rfl

theorem Machine.State.expireTimer_watch : s.expireTimer.watch = s.watch := by
  unfold State.expireTimer
  split
  · exact s.endSession_watch _
  · rfl

theorem Machine.State.cancelTrailerSession_watch : s.cancelTrailerSession.watch = s.watch := by
  unfold State.cancelTrailerSession
  split
  · split
    · exact s.endSession_watch _
    · rfl
  · rfl

theorem Machine.State.putVehicle_watch (v : Vehicle) : State.watch { s with vehicle := v } = s.watch := rfl

theorem Machine.State.permitBodyWrite_watch (b : BodyState) : (s.permitBodyWrite b).watch = s.watch := by
  unfold State.permitBodyWrite
  split
  · exact s.evaluate_watch
  · exact s.putPermit_watch _

end

/-- The commands that judge no wheel and set none of the three flags. -/
def Instr.unwatched : Instr → Bool
  | .uptimeTick | .vsenseSample .. | .telegramCompletion .. | .positionTimerExpiry | .writeBegin | .writeCompletion ..
  | .malformedCommandFrame .. | .nop .. | .readId .. | .setEventMask .. | .readWheels .. | .readAxles .. | .readAlerts ..
  | .ackAlert .. | .readPermit .. | .setVehicleBody .. | .setVehicleAmbient .. | .readVehicle .. | .readConfig ..
  | .mapProtect .. | .profileSelect .. | .profileRead .. | .learnStart .. | .learnAbort .. | .learnStatus ..
  | .storeCommit .. | .storeStatus .. | .syncDetected .. | .lineCodingViolation .. => true
  | _ => false

/-- A reply, from a state or from one that looks the same. -/
theorem Machine.State.answered_watch {s u : State} (same : u.watch = s.watch) (q : PortId) (st : Status) (bs : List Byte) :
    (u.answer q st bs).watch = s.watch := (u.answer_watch q st bs).trans same

theorem exec_unwatched (s : State) {c : Instr} (unwatched : c.unwatched = true) :
    Result.Gives (fun t => t.watch = s.watch) (exec c s) := by
  cases c with
  | uptimeTick => exact gives_next rfl
  | vsenseSample level =>
    show Result.Gives _ (execVsenseSample level s)
    unfold execVsenseSample
    split
    · exact gives_next (State.judgeSample_watch _ _)
    · exact gives_next rfl
  | telegramCompletion ch bits =>
    show Result.Gives _ (execTelegramCompletion ch bits s)
    unfold execTelegramCompletion
    split
    · exact gives_next rfl
    · split
      · exact gives_next ((State.completeTelegram_watch _ ch _ _).trans (s.setReceiver_watch ch _))
      · exact gives_next (s.setReceiver_watch ch _)
  | positionTimerExpiry => exact gives_next s.expireTimer_watch
  | writeBegin =>
    show Result.Gives _ (execWriteBegin s)
    unfold execWriteBegin
    split <;> exact gives_next rfl
  | writeCompletion ok =>
    show Result.Gives _ (execWriteCompletion ok s)
    unfold execWriteCompletion
    split
    · exact gives_next (s.completeWrite_watch _ ok)
    · exact gives_next rfl
  | malformedCommandFrame q sdi =>
    refine gives_next (State.transact_watch ?_)
    split
    · exact s.refuse_watch q _
    · rfl
  | nop q => exact gives_next (State.transact_watch (s.answer_watch q _ _))
  | readId q => exact gives_next (State.transact_watch (s.answer_watch q _ _))
  | setEventMask q m => exact gives_next (State.transact_watch (State.answered_watch
    (s.setPort_watch q (x := { s.port q with mask := m.setWidth 11 }) rfl) q _ _))
  | readWheels q a b c d =>
    refine gives_next (State.unlessLoading_watch ?_)
    split
    · exact State.answer_watch { s with freeIndex := s.freeIndex + 1 } q _ _
    · exact s.refuse_watch q _
  | readAxles q a n =>
    refine gives_next (State.unlessLoading_watch ?_)
    split
    · exact s.answer_watch q _ _
    · exact s.refuse_watch q _
  | readAlerts q n =>
    refine gives_next (State.unlessLoading_watch ?_)
    split
    · exact s.answer_watch q _ _
    · exact s.refuse_watch q _
  | ackAlert q a b k =>
    refine gives_next (State.unlessLoading_watch ?_)
    split
    · next p k _ _ => exact State.answer_watch { s with alerts := s.alerts.acknowledge q p k } q _ _
    · exact s.refuse_watch q _
  | readPermit q => exact gives_next (State.unlessLoading_watch (s.answer_watch q _ _))
  | setVehicleBody q v =>
    refine gives_next (State.transact_watch ?_)
    split
    · exact s.refuse_watch q _
    · next x _ =>
      exact (State.vehicleTaken_watch _ q _ _).trans
        (State.permitBodyWrite_watch { s with vehicle := { s.vehicle with body := x, bodyWriter := some q } } _)
  | setVehicleAmbient q v =>
    refine gives_next (State.transact_watch ((State.vehicleTaken_watch _ q _ _).trans ?_))
    exact s.putVehicle_watch _
  | readVehicle q => exact gives_next (State.transact_watch (s.answer_watch q _ _))
  | readConfig q => exact gives_next (State.unlessLoading_watch (s.answer_watch q _ _))
  | mapProtect q g a f l =>
    refine gives_next (State.unlessLoading_watch ?_)
    split
    · exact s.refuse_watch q _
    · next r _ =>
      split
      · exact s.refuse_watch q _
      · exact State.answered_watch (State.setFlagBoth_watch { s with protect := r, generation := s.generation + 1 } rfl) q _ _
  | profileSelect q n f =>
    refine gives_next (State.unlessLoading_watch ?_)
    split
    · exact State.answered_watch (s.setStaging_watch q _) q _ _
    · exact s.refuse_watch q _
  | profileRead q n =>
    refine gives_next (State.unlessLoading_watch ?_)
    split
    · exact s.refuse_watch q _
    · exact s.answer_watch q _ _
  | learnStart q g a b =>
    refine gives_next (State.transact_watch ?_)
    split
    · exact s.refuse_watch q _
    · exact State.answered_watch (State.setFlagBoth_watch _ rfl) q _ _
  | learnAbort q =>
    refine gives_next (State.unlessLoading_watch ?_)
    split
    · exact s.refuse_watch q _
    · exact State.answered_watch (s.endSession_watch _) q _ _
  | learnStatus q => exact gives_next (State.unlessLoading_watch (s.answer_watch q _ _))
  | storeCommit q =>
    refine gives_next (State.transact_watch ?_)
    split
    · exact State.answered_watch (u := s.beginWrite) rfl q _ _
    · exact State.answer_watch { s with store := { s.store with state := .pending } } q _ _
    · exact s.refuse_watch q _
  | storeStatus q => exact gives_next (State.transact_watch (s.answer_watch q _ _))
  | syncDetected ch bits level => exact gives_next (s.setReceiver_watch ch _)
  | lineCodingViolation ch => exact gives_next (s.setReceiver_watch ch _)
  | _ => cases unwatched

end Sys2Proof

/-! ## Commands that judge wheels -/

namespace Sys2Proof
open Machine Safety
open Machine.State (Stages Clears Tells Turning Reports Spares Follows)
open Machine.Result (gives_next)

/-! ### A session that is handed an entry (R132, R139) -/

section
variable (s : State)

/-- What a result sets besides placing its entries: IMAGE, and WHEEL if it places an ID. -/
theorem Machine.State.applyResult_tells (staging : List (Pos × Option SensorId)) : s.Tells (s.applyResult staging) := by
  have placed := Tells.foldl State.placeStaged_tells staging s
  unfold State.applyResult
  generalize staging.foldl State.placeStaged s = u at placed ⊢
  have numbered : u.Tells { u with generation := u.generation + 1 } := .of_same (fun _ _ => rfl) fun _ _ on => on
  have flagged := (placed.trans numbered).trans (.setFlagBoth _ .image)
  unfold State.setFlagIf
  split
  · exact flagged.trans (.setFlagBoth _ .wheel)
  · exact flagged

theorem Machine.State.putSession_tells (l : Learn) : s.Tells (State.setFlagBoth { s with learn := l } .learn) :=
  Tells.trans (u := { s with learn := l }) (.of_same (fun _ _ => rfl) fun _ _ on => on) (.setFlagBoth _ .learn)

/-- An advance goes on with the session, or it applies the result and ends it (R132). -/
theorem Machine.State.advance_cases (l : Session) (id : Option SensorId) :
    (∃ staging, s.advance l id = (s.applyResult staging).endSession .completed)
    ∨ ∃ l', s.advance l id = ({ s with learn := { s.learn with session := some l' } }).setFlagBoth .learn := by
  unfold State.advance
  split
  · exact .inl ⟨_, rfl⟩
  · dsimp only
    split
    · exact .inr ⟨_, rfl⟩
    · exact .inl ⟨_, rfl⟩

theorem Machine.State.putSession_watch (l : Learn) : (State.setFlagBoth { s with learn := l } .learn).watch = s.watch :=
  State.setFlagBoth_watch { s with learn := l } rfl

theorem Machine.State.advance_tells (l : Session) (id : Option SensorId) : s.Tells (s.advance l id) := by
  rcases s.advance_cases l id with ⟨staging, ends⟩ | ⟨l', goes⟩
  · rw [ends]
    exact (s.applyResult_tells staging).trans (State.putSession_tells _ _)
  · rw [goes]
    exact s.putSession_tells _

theorem Machine.State.handOver_tells (e : QueueEntry) : s.Tells (s.handOver e) := by
  unfold State.handOver
  split
  · split
    · exact s.advance_tells _ _
    · exact .refl s
  · exact .refl s

/-- A hand-over that ends no session leaves what the flags watch. -/
theorem Machine.State.handOver_watch {e : QueueEntry} (goes : s.learn.session = none ∨ (s.handOver e).learn.session.isSome = true) :
    (s.handOver e).watch = s.watch := by
  revert goes
  unfold State.handOver
  split
  · next l running =>
    split
    · intro goes
      rcases s.advance_cases l (some e.telegram.id) with ⟨staging, ends⟩ | ⟨l', on⟩
      · rw [ends] at goes
        rcases goes with none | some
        · rw [running] at none
          cases none
        · cases some
      · rw [on]
        exact s.putSession_watch _
    · exact fun _ => rfl
  · exact fun _ => rfl

end

/-! ### Taking an entry -/

section
variable {s : State}

theorem Machine.State.handled_watch (s : State) (e : QueueEntry) :
    (s.handled e).watch = (s.noteWheels ((s.readEntry e).handOver e)).watch := by
  unfold State.handled
  split
  · exact State.evaluate_watch _
  · rfl

theorem Machine.State.handled_learn (s : State) (e : QueueEntry) : (s.handled e).learn = ((s.readEntry e).handOver e).learn := by
  unfold State.handled
  split
  · exact (congrArg State.learn ((State.evaluate_rest _).trans (State.noteWheels_rest _ _)) :)
  · exact (congrArg State.learn (State.noteWheels_rest _ _) :)

theorem Machine.State.counted_watch (s : State) (e : QueueEntry) : (s.counted e).watch = s.watch := by
  unfold State.counted
  split
  · exact s.resetCounts_watch
  · rfl

theorem Machine.State.handled_reports (s : State) (e : QueueEntry) : s.Reports (s.handled e) :=
  ((s.readEntry_tells e).trans (State.handOver_tells _ e)).reports.congr rfl (s.handled_watch e)

theorem Machine.State.handled_spares {e : QueueEntry} (away : ∀ p, (s.wheel p).FloorAway)
    (goes : s.learn.session = none ∨ (s.handled e).learn.session.isSome = true) : s.Spares (s.handled e) := by
  rw [State.handled_learn, ← s.readEntry_learn e] at goes
  have turning := (State.readEntry_turning away e).then_same (.of_watch ((s.readEntry e).handOver_watch goes))
  exact turning.spares.congr rfl (s.handled_watch e)

/-- Neither the queue nor a LOST mark moves a pending floor away from its band (R76). -/
theorem Machine.State.counted_floorAway (law : CountLaw s) (rest : List QueueEntry) (e : QueueEntry) (p : Pos) :
    ((State.counted { s with queue := rest } e).wheel p).FloorAway := by
  unfold State.counted
  split
  · rw [show (State.resetCounts _).wheel p = _ from State.tabulate_wheel _ _ p]
    intro z hz
    cases hz
  · exact law.floor p

theorem entryTaken_reports (s : State) : Result.Gives s.Reports (exec .entryTaken s) := by
  cases queue : s.queue with
  | nil =>
    show Result.Gives _ (execEntryTaken s)
    unfold execEntryTaken
    rw [queue]
    exact gives_next (Follows.refl s).reports
  | cons e rest =>
    rw [exec_entryTaken queue]
    exact gives_next ((State.handled_reports _ e).congr (s' := s) (State.counted_watch { s with queue := rest } e).symm rfl)

theorem entryTaken_spares (law : CountLaw s) :
    Result.Gives (fun t => s.learn.session = none ∨ t.learn.session.isSome = true → s.Spares t) (exec .entryTaken s) := by
  cases queue : s.queue with
  | nil =>
    show Result.Gives _ (execEntryTaken s)
    unfold execEntryTaken
    rw [queue]
    exact gives_next fun _ => (Follows.refl s).spares
  | cons e rest =>
    rw [exec_entryTaken queue]
    refine gives_next fun goes => ?_
    have learn : (State.counted { s with queue := rest } e).learn = s.learn :=
      (congrArg State.learn (State.counted_judges { s with queue := rest } e).rest :)
    have going := goes.imp_left fun none => (congrArg Learn.session learn).trans none
    exact (State.handled_spares (State.counted_floorAway law rest e) going).congr (s' := s)
      (State.counted_watch { s with queue := rest } e).symm rfl

/-! ### Other events that judge -/

theorem Machine.State.takeExpiries_follows (s : State) : s.Follows s.takeExpiries :=
  (Follows.noteWheels s.expireDue_tells s.expireDue_turning).congr rfl (State.evaluate_watch _)

theorem silenceExpiry_follows (s : State) (a : Fin 10) (k : Fin 4) : Result.Gives s.Follows (exec (.silenceExpiry a k) s) := by
  show Result.Gives _ (execSilenceExpiry a k s)
  unfold execSilenceExpiry
  split
  · exact gives_next ((Follows.noteWheels (s.expireAt_tells _) (s.expireAt_turning _)).congr rfl (State.evaluate_watch _))
  · exact gives_next (.refl s)

/-- A target change under new levels, with its flags and its evaluation (R96). -/
theorem Machine.State.targetChange_follows (u : State) (f : Fin 10 → Bool) (same : u.watch = s.watch) :
    s.Follows (u.noteWheels (u.targetChange f)).evaluate :=
  (Follows.noteWheels (u.targetChange_tells f) (u.targetChange_turning f)).congr same.symm (State.evaluate_watch _)

theorem setVehicleLoad_follows (s : State) (q : PortId) (v : Half) : Result.Gives s.Follows (exec (.setVehicleLoad q v) s) := by
  refine gives_next (State.transact_of s.Follows (fun _ => .of_watch) ?_)
  split
  · exact .of_watch (s.refuse_watch q _)
  · next x _ =>
    exact (State.targetChange_follows { s with vehicle := { s.vehicle with load := x, loadWriter := some q } } _
      (s.putVehicle_watch _)).congr rfl (State.vehicleTaken_watch _ q _ _)

theorem Machine.State.attachTrailer_tells (s : State) : s.Tells s.attachTrailer :=
  State.atEach_keeps s.Tells _ (fun t p h => h.trans (t.attachAt_tells p)) s allPos (.refl s)

theorem Machine.State.writeTrailer_follows (s : State) (q : PortId) (x : TrailerState) : s.Follows (s.writeTrailer q x) := by
  have written := s.putVehicle_watch { s.vehicle with trailer := x, trailerWriter := some q }
  unfold State.writeTrailer
  dsimp only
  refine Follows.congr ?_ rfl (State.evaluate_watch _)
  split
  · exact (Follows.noteWheels (State.attachTrailer_tells _) (State.attachTrailer_turning _)).congr written.symm rfl
  · exact (Follows.noteWheels (State.detachAll_tells _ _) (State.detachAll_turning _ _)).congr written.symm
      (State.cancelTrailerSession_watch _)
  · exact .of_watch written

theorem setVehicleTrailer_follows (s : State) (q : PortId) (v : Half) :
    Result.Gives s.Follows (exec (.setVehicleTrailer q v) s) := by
  refine gives_next (State.transact_of s.Follows (fun _ => .of_watch) ?_)
  split
  · exact .of_watch (s.refuse_watch q _)
  · exact (s.writeTrailer_follows q _).congr rfl (State.vehicleTaken_watch _ q _ _)

theorem setVehicleMotion_follows (s : State) (q : PortId) (v : Half) :
    Result.Gives s.Follows (exec (.setVehicleMotion q v) s) := by
  refine gives_next (State.transact_of s.Follows (fun _ => .of_watch) ?_)
  split
  · exact .of_watch (s.refuse_watch q _)
  · next x _ =>
    exact (State.takeExpiries_follows { s with vehicle := { s.vehicle with motion := x, motionWriter := some q } }).congr
      (s.putVehicle_watch _).symm (State.vehicleTaken_watch _ q _ _)

theorem Machine.State.writeLifted_follows (s : State) (q : PortId) (x : BitVec 10) : s.Follows (s.writeLifted q x) := by
  have written := s.putVehicle_watch { s.vehicle with lifted := x, liftedWriter := some q }
  unfold State.writeLifted
  dsimp only
  split
  · exact .of_watch ((State.evaluate_watch _).trans written)
  · exact (State.takeExpiries_follows _).congr written.symm rfl

theorem setVehicleLiftedSet_follows (s : State) (q : PortId) (v : Half) :
    Result.Gives s.Follows (exec (.setVehicleLiftedSet q v) s) := by
  refine gives_next (State.transact_of s.Follows (fun _ => .of_watch) ?_)
  split
  · exact .of_watch (s.refuse_watch q _)
  · exact (s.writeLifted_follows q _).congr rfl (State.vehicleTaken_watch _ q _ _)

theorem Machine.State.writeConfig_follows (s : State) (i : ConfigItem) (v : BitVec 32) : s.Follows (s.writeConfig i v) := by
  have written : (State.setFlagBoth { s with config := s.config.write i v, generation := s.generation + 1 } .image).watch
      = s.watch := State.setFlagBoth_watch { s with config := s.config.write i v, generation := s.generation + 1 } rfl
  unfold State.writeConfig
  generalize State.setFlagBoth _ _ = u at written ⊢
  have expiries := u.takeExpiries_follows.congr written.symm rfl
  cases i with
  | movingLimit => exact expiries
  | stoppedLimit => exact expiries
  | learnTimeout => exact .of_watch (u.expireTimer_watch.trans written)
  | _ => exact .of_watch written

theorem setConfig_follows (s : State) (q : PortId) (i : Byte) (v : BitVec 32) :
    Result.Gives s.Follows (exec (.setConfig q i v) s) := by
  refine gives_next (State.unlessLoading_of s.Follows (fun _ => .of_watch) ?_)
  split
  · exact .of_watch (s.refuse_watch q _)
  · exact (s.writeConfig_follows _ v).congr rfl (State.answer_watch _ q _ _)

theorem Machine.State.commitProfile_follows (s : State) (n : Fin 4) (copy : Profile) : s.Follows (s.commitProfile n copy) :=
  State.targetChange_follows _ _ (State.setFlagBoth_watch
    { s with profiles := s.profiles.set n.val copy n.isLt, generation := s.generation + 1 } rfl)

theorem Machine.State.writeStaged_follows (s : State) (q : PortId) (g : Staging) (v : Int) : s.Follows (s.writeStaged q g v) := by
  unfold State.writeStaged
  dsimp only
  split
  · exact .of_watch (State.answered_watch (s.setStaging_watch q _) q _ _)
  · split
    · exact (s.commitProfile_follows _ _).congr rfl (State.answered_watch (State.setStaging_watch _ q _) q _ _)
    · exact .of_watch (State.answered_watch (s.setStaging_watch q _) q _ _)

theorem profileWrite_follows (s : State) (q : PortId) (v : Half) : Result.Gives s.Follows (exec (.profileWrite q v) s) := by
  refine gives_next (State.unlessLoading_of s.Follows (fun _ => .of_watch) ?_)
  split
  · exact .of_watch (s.refuse_watch q _)
  · exact s.writeStaged_follows q _ _

/-! ### The port's own flags -/

/-- GET_EVENTS drops flags only (R173). -/
theorem getEvents_follows (s : State) (q : PortId) : Result.Gives s.Follows (exec (.getEvents q) s) := by
  refine gives_next (State.transact_of s.Follows (fun _ => .of_watch) ?_)
  refine Follows.congr (t := s.setPort q { s.port q with flags := 0 }) ?_ rfl (State.answer_watch _ q _ _)
  refine .of_judged (fun p => by rw [State.setPort_wheel]) fun r f set => ?_
  rw [State.setPort_port] at set
  split at set
  · simp [Port.flag] at set
  · exact set

theorem portReset_reports (s : State) (q : PortId) : Result.Gives s.Reports (exec (.portReset q) s) := by
  refine gives_next (State.unlessLoading_of s.Reports (fun _ => .of_watch) ?_)
  refine Reports.congr (.of_judged fun p => ?_) rfl (State.answer_watch _ q _ _)
  rw [State.setPort_wheel]
  rfl

/-- The commands whose flags follow the records, whatever they judge. -/
def Instr.judging : Instr → Bool
  | .silenceExpiry .. | .setVehicleLoad .. | .setVehicleTrailer .. | .setVehicleMotion .. | .setVehicleLiftedSet ..
  | .setConfig .. | .profileWrite .. | .getEvents .. => true
  | _ => false

theorem exec_judging (s : State) {c : Instr} (judging : c.judging = true) : Result.Gives s.Follows (exec c s) := by
  cases c with
  | silenceExpiry a k => exact silenceExpiry_follows s a k
  | setVehicleLoad q v => exact setVehicleLoad_follows s q v
  | setVehicleTrailer q v => exact setVehicleTrailer_follows s q v
  | setVehicleMotion q v => exact setVehicleMotion_follows s q v
  | setVehicleLiftedSet q v => exact setVehicleLiftedSet_follows s q v
  | setConfig q i v => exact setConfig_follows s q i v
  | profileWrite q v => exact profileWrite_follows s q v
  | getEvents q => exact getEvents_follows s q
  | _ => cases judging

end

end Sys2Proof

/-! ## Map edits, and the flags of every command -/

namespace Sys2Proof
open Machine Safety
open Machine.State (Stages Clears Tells Turning Reports Spares Follows)
open Machine.Result (gives_next)

/-! ### What map edits and learning results report (R14, R140) -/

section
variable {s u t : State}

theorem Machine.State.editTaken_tells (u : State) (w : Bool) : u.Tells (u.editTaken w) := by
  have numbered : u.Tells { u with generation := u.generation + 1 } := .of_same (fun _ _ => rfl) fun _ _ on => on
  have evaluated (x : State) : x.Tells x.evaluate := .of_grown (State.active_of_watch x.evaluate_watch) x.evaluate_grown
  have flagged := numbered.trans (.setFlagBoth _ .image)
  unfold State.editTaken
  cases w
  · exact flagged.trans (evaluated _)
  · exact (flagged.trans (.setFlagBoth _ .wheel)).trans (evaluated _)

/-- An edit that sets WHEEL where it changes a record. -/
theorem Machine.State.Tells.edit {w : Bool} (h : s.Tells u) (noted : ∀ p, (u.wheel p).judged ≠ (s.wheel p).judged → w = true) :
    s.Reports (u.editTaken w) where
  wheel p changed := by
    rw [State.wheel_of_wheels (State.editTaken_wheels u w)] at changed
    rw [noted p changed]
    exact Claims.flagged_editTaken u
  alert on p k turns := (h.trans (u.editTaken_tells w)).told on p k turns

theorem mapAssign_reports (s : State) (q : PortId) (g : Generation) (a k : Byte) (id : SensorId) :
    Result.Gives s.Reports (exec (.mapAssign q g a k id) s) := by
  refine gives_next (State.unlessLoading_of s.Reports (fun _ => .of_watch) ?_)
  split
  · exact .of_watch (s.refuse_watch q _)
  · next p _ =>
    split
    · exact .of_watch (s.refuse_watch q _)
    · refine Reports.congr ?_ rfl (State.answer_watch _ q _ _)
      unfold State.assign
      split
      · exact (Tells.refl s).edit fun _ changed => absurd rfl changed
      · exact (s.freshAt_tells p id).edit fun _ _ => rfl

theorem mapRemove_reports (s : State) (q : PortId) (g : Generation) (a k : Byte) :
    Result.Gives s.Reports (exec (.mapRemove q g a k) s) := by
  refine gives_next (State.unlessLoading_of s.Reports (fun _ => .of_watch) ?_)
  split
  · exact .of_watch (s.refuse_watch q _)
  · next p _ =>
    split
    · exact .of_watch (s.refuse_watch q _)
    · refine Reports.congr ?_ rfl (State.answer_watch _ q _ _)
      unfold State.remove
      split
      · exact (s.emptyAll_tells [p]).edit fun _ _ => rfl
      · exact (Tells.refl s).edit fun _ changed => absurd rfl changed

theorem Machine.State.setAxle_tells (s : State) (a : Fin 10) (r : AxleRecord) : s.Tells (s.setAxle a r) := by
  have written (x : State) : x.Tells (x.writeAxle a r) := .of_same (fun _ _ => rfl) fun _ _ on => on
  have lowered (x : State) (v : Vehicle) : x.Tells { x with vehicle := v } := .of_same (fun _ _ => rfl) fun _ _ on => on
  have dropped (x : State) : x.Tells (x.dropLift a) := by
    unfold State.dropLift
    split
    · exact (lowered x _).trans (.setFlagBoth _ .vehicle)
    · exact .refl x
  have settled := (((s.emptyAll_tells (s.slotsLost a r)).trans (written _)).trans (State.unitChange_tells _ a (s.axle a))).trans
    (dropped _)
  unfold State.setAxle
  dsimp only
  split
  · exact settled.trans (State.targetChange_tells _ _)
  · exact settled

theorem mapSetAxle_reports (s : State) (q : PortId) (g : Generation) (a pr un ki pf tc lc : Byte) :
    Result.Gives s.Reports (exec (.mapSetAxle q g a pr un ki pf tc lc) s) := by
  refine gives_next (State.unlessLoading_of s.Reports (fun _ => .of_watch) ?_)
  split
  · next x r _ _ =>
    split
    · exact .of_watch (s.refuse_watch q _)
    · exact ((s.setAxle_tells x r).edit fun p changed => wheelsChanged_of_ne changed.symm).congr rfl (State.answer_watch _ q _ _)
  · exact .of_watch (s.refuse_watch q _)

/-- A result that stages no ID places nothing. -/
theorem placeStaged_kept {staging : List (Pos × Option SensorId)} (skips : ∀ e ∈ staging, e.2 = none) (s : State) :
    staging.foldl State.placeStaged s = s := by
  induction staging with
  | nil => rfl
  | cons e rest ih =>
    have stays : s.placeStaged e = s := by
      unfold State.placeStaged
      rw [skips e List.mem_cons_self]
    rw [List.foldl_cons, stays]
    exact ih fun x mem => skips x (List.mem_cons_of_mem e mem)

theorem Machine.State.applyResult_reports (s : State) (staging : List (Pos × Option SensorId)) :
    s.Reports (s.applyResult staging) where
  wheel p changed := by
    by_cases places : ∃ e ∈ staging, e.2.isSome = true
    · obtain ⟨⟨r, id⟩, mem, some⟩ := places
      obtain ⟨id, rfl⟩ := Option.isSome_iff_exists.1 some
      exact s.applyResult_flagged mem
    · have skips : ∀ e ∈ staging, e.2 = none := fun e mem =>
        Option.not_isSome_iff_eq_none.1 fun some => places ⟨e, mem, some⟩
      rw [State.wheel_of_wheels (State.applyResult_wheels s staging), placeStaged_kept skips] at changed
      exact absurd rfl changed
  alert on p k turns := (s.applyResult_tells staging).told on p k turns

theorem Machine.State.advance_reports (s : State) (l : Session) (id : Option SensorId) : s.Reports (s.advance l id) := by
  rcases s.advance_cases l id with ⟨staging, ends⟩ | ⟨l', goes⟩
  · rw [ends]
    exact (s.applyResult_reports staging).congr rfl (State.endSession_watch _ _)
  · rw [goes]
    exact .of_watch (s.putSession_watch _)

theorem learnSkip_reports (s : State) (q : PortId) : Result.Gives s.Reports (exec (.learnSkip q) s) := by
  refine gives_next (State.unlessLoading_of s.Reports (fun _ => .of_watch) ?_)
  split
  · exact .of_watch (s.refuse_watch q _)
  · next l _ =>
    refine (s.advance_reports l none).congr rfl ((State.answer_watch _ q _ _).trans ?_)
    split
    · exact State.evaluate_watch _
    · rfl

theorem learnFinish_reports (s : State) (q : PortId) : Result.Gives s.Reports (exec (.learnFinish q) s) := by
  refine gives_next (State.unlessLoading_of s.Reports (fun _ => .of_watch) ?_)
  split
  · exact .of_watch (s.refuse_watch q _)
  · next l _ =>
    exact (s.applyResult_reports l.staging).congr rfl
      ((State.answered_watch (State.evaluate_watch _) q _ _).trans (State.endSession_watch _ _))

/-! ### Moves (R27) -/

/-- A condition that a move carries along with its record (R18). -/
def Condition.carried (k : Condition) : Prop := k = .sensorFault ∨ k = .batteryLow

/-- Of the other conditions a move leaves on each wheel what its clearings leave there. -/
theorem Machine.State.moved_active_uncarried {m : Move} (hm : m.Fits) (s : State) (p : Pos) {k : Condition}
    (stays : ¬ Condition.carried k) : (s.moved m).active p k = (s.moveClearings m).active p k := by
  have uncarried : (k == .sensorFault || k == .batteryLow) = false := by
    simpa [Condition.carried] using stays
  by_cases touched : s.touchedBy m p = true
  · have gone (q : Pos) (h : s.touchedBy m q = true) : (s.moveClearings m).active q k = false := by
      rw [State.moveClearings_touched h, uncarried, Bool.and_false, Bool.and_false]
    rw [gone p touched]
    by_cases arrives : s.arrivesAt m p = true
    · obtain ⟨source, away, rfl⟩ := (State.arrivesAt_iff hm p).1 arrives
      rw [State.active, State.moved_wheel_arrived hm away]
      exact gone source (State.movesAway_touched away)
    · rw [State.active, (State.moved_emptied touched arrives).2]
      cases k <;> rfl
  · rw [State.active, State.moved_wheel_untouched (Bool.eq_false_iff.2 touched)]
    rfl

/-- A move that touches no sensor changes no record. -/
theorem Machine.State.moved_wheel_same {m : Move} (record : RecordLaw s) (pair : PairLaw s) (hm : m.Fits)
    (idle : s.moveTouchesRecord m = false) (p : Pos) : (s.moved m).wheel p = s.wheel p := by
  have blank (q : Pos) (touched : s.touchedBy m q = true) : s.wheel q = .empty := by
    refine record.values q ((record.empty q).2 (Option.not_isSome_iff_eq_none.1 fun held => ?_))
    rw [State.touchedBy_iff] at touched
    have found : s.moveTouchesRecord m = true := by
      rw [State.moveTouchesRecord, allPos_any]
      exact ⟨q, by rw [touched, held]; rfl⟩
    rw [idle] at found
    cases found
  by_cases touched : s.touchedBy m p = true
  · have lonely : ¬ s.arrivesAt m p = true := fun arrives => by
      have found := State.moveTouchesRecord_of_movesAway (State.movesAway_source hm arrives)
      rw [idle] at found
      cases found
    rw [blank p touched, (State.moved_emptied touched lonely).2]
  · have free := Bool.eq_false_iff.2 touched
    have kept : (s.moveClearings m).active p .imbalance = s.active p .imbalance := by
      rw [State.moveClearings_untouched free]
      cases on : s.active p .imbalance with
      | false => rfl
      | true =>
        have low : s.active p.pairLow .imbalance = true := by
          rcases Pos.eq_pairLow_or_pairHigh p with own | own
          · rwa [← own]
          · rwa [pair.both p, ← own]
        have held (q : Pos) (active : s.active q .imbalance = true) : ¬ s.touchedBy m q = true := fun h => by
          rw [State.active, blank q h] at active
          cases active
        simp [held _ low, held _ ((pair.both p).symm.trans low)]
    rw [State.moved_wheel_untouched free, State.moveClearings_wheel_untouched free, kept, State.active, Conditions.put_same rfl]

/-- What a move reports: the conditions it carries turn at both ends without a flag. -/
structure Machine.State.MoveReports (s t : State) : Prop where
  wheel : RecordLaw s → PairLaw s → ∀ p, (t.wheel p).judged ≠ (s.wheel p).judged → Claims.Flagged t .wheel
  alert : ∀ on p k, s.Turns t on p k → ¬ Condition.carried k → Claims.Flagged t (alertFlag on)

theorem Machine.State.Reports.move (h : s.Reports t) : s.MoveReports t := ⟨fun _ _ => h.wheel, fun on p k turns _ => h.alert on p k turns⟩

theorem Machine.State.MoveReports.congr {x : State} (h : s.MoveReports t) (same : x.watch = t.watch) : s.MoveReports x where
  wheel record pair p changed q := by
    rw [State.judged_of_watch same] at changed
    rw [State.flag_of_watch same q rfl]
    exact h.wheel record pair p changed q
  alert on p k turns stays q := by
    rw [State.flag_of_watch same q (alertFlag_watches on)]
    exact h.alert on p k ((State.Turns.congr (fun _ _ => rfl) (State.active_of_watch same)).1 turns) stays q

theorem Machine.State.move_reports {m : Move} (hm : m.Fits) (s : State) : s.MoveReports (s.move m) where
  wheel record pair p changed := by
    rw [State.move_eq, State.wheel_of_wheels (State.editTaken_wheels _ _)] at changed
    rw [State.move_eq]
    cases touches : s.moveTouchesRecord m with
    | true => exact Claims.flagged_editTaken _
    | false => exact absurd (congrArg WheelRecord.judged (State.moved_wheel_same record pair hm touches p)) changed
  alert on p k turns stays := by
    have active : (s.move m).active p k = (s.moveClearings m).active p k := by
      rw [State.move_eq, State.active, State.wheel_of_wheels (State.editTaken_wheels _ _)]
      exact State.moved_active_uncarried hm s p stays
    have told := (s.moveClearings_clears m).tells.told on p k ⟨turns.1, active.symm.trans turns.2⟩
    exact fun q => (State.editTaken_tells (s.moved m) _).grows q _ (told q)

theorem mapMove_reports (s : State) (q : PortId) (g : Generation) (sa sk na ns da dk mode : Byte) :
    Result.Gives s.MoveReports (exec (.mapMove q g sa sk na ns da dk mode) s) := by
  have quiet (u : State) (same : u.watch = s.watch) : s.MoveReports u := (Reports.of_watch same).move
  refine gives_next (State.unlessLoading_of s.MoveReports quiet ?_)
  split
  · exact quiet _ (s.refuse_watch q _)
  · next m named =>
    split
    · exact quiet _ (s.refuse_watch q _)
    · exact (State.move_reports (moveOf_fits named) s).congr (State.answer_watch _ q _ _)

end

/-! ### Every command -/

theorem exec_follows (s : State) {c : Instr} (follows : (c.unwatched || c.judging) = true) : Result.Gives s.Follows (exec c s) := by
  rcases Bool.or_eq_true_iff.1 follows with unwatched | judging
  · exact fun t gives => .of_watch (exec_unwatched s unwatched t gives)
  · exact exec_judging s judging

theorem exec_reports (s : State) (c : Instr) (starts : ¬ Claims.Restarts c) (loads : c ≠ .loadCompletion)
    (stays : ∀ q g sa sk na ns da dk m, c ≠ .mapMove q g sa sk na ns da dk m) : Result.Gives s.Reports (exec c s) := by
  by_cases follows : (c.unwatched || c.judging) = true
  · exact fun t gives => (exec_follows s follows t gives).reports
  cases c with
  | powerUp => exact absurd (.inl rfl) starts
  | resetN => exact absurd (.inr (.inl rfl)) starts
  | powerLoss => exact absurd (.inr (.inr rfl)) starts
  | loadCompletion => exact absurd rfl loads
  | entryTaken => exact entryTaken_reports s
  | portReset q => exact portReset_reports s q
  | mapAssign q g a k id => exact mapAssign_reports s q g a k id
  | mapRemove q g a k => exact mapRemove_reports s q g a k
  | mapSetAxle q g a pr un ki pf tc lc => exact mapSetAxle_reports s q g a pr un ki pf tc lc
  | mapMove q g sa sk na ns da dk m => exact absurd rfl (stays q g sa sk na ns da dk m)
  | learnSkip q => exact learnSkip_reports s q
  | learnFinish q => exact learnFinish_reports s q
  | _ => exact absurd rfl follows

theorem exec_spares {s : State} (law : CountLaw s) (c : Instr) (starts : ¬ Claims.Restarts c) (loads : c ≠ .loadCompletion) :
    Result.Gives (fun t => Claims.FlagsByRecordsAlone s t c → s.Spares t) (exec c s) := by
  by_cases follows : (c.unwatched || c.judging) = true
  · exact fun t gives _ => (exec_follows s follows t gives).spares
  cases c with
  | powerUp => exact absurd (.inl rfl) starts
  | resetN => exact absurd (.inr (.inl rfl)) starts
  | powerLoss => exact absurd (.inr (.inr rfl)) starts
  | loadCompletion => exact absurd rfl loads
  | entryTaken => exact entryTaken_spares law
  | portReset | mapAssign | mapRemove | mapSetAxle | mapMove | learnSkip | learnFinish => exact fun _ _ alone => alone.elim
  | _ => exact absurd rfl follows

theorem sameJudged_iff (r u : WheelRecord) : Claims.SameJudged r u ↔ u.judged = r.judged := by
  unfold Claims.SameJudged WheelRecord.judged
  simp only [Prod.mk.injEq, eq_comm]

/-- Settles O38, by what each command's event reports of the records it judges (`State.Reports`) and by its setting none of the
three flags besides (`State.Spares`). -/
theorem wheelAndAlertFlagsFollowTheRecords : Obligations.WheelAndAlertFlagsFollowTheRecords := by
  unfold Obligations.WheelAndAlertFlagsFollowTheRecords
  intro c s t gives starts loads moved changed raised cleared
  have reports : (RecordLaw s → PairLaw s → ∀ p, (t.wheel p).judged ≠ (s.wheel p).judged → Claims.Flagged t .wheel)
      ∧ ∀ on p k, s.Turns t on p k → ¬ moved k → Claims.Flagged t (alertFlag on) := by
    by_cases move : ∃ q g sa sk na ns da dk m, c = .mapMove q g sa sk na ns da dk m
    · obtain ⟨q, g, sa, sk, na, ns, da, dk, m, rfl⟩ := id move
      obtain ⟨wheel, alert⟩ := mapMove_reports s q g sa sk na ns da dk m t gives
      exact ⟨wheel, fun on p k turns free => alert on p k turns fun carried => free ⟨carried, move⟩⟩
    · obtain ⟨wheel, alert⟩ := exec_reports s c starts loads (by simpa using move) t gives
      exact ⟨fun _ _ => wheel, fun on p k turns _ => alert on p k turns⟩
  obtain ⟨wheel, alert⟩ := reports
  refine ⟨fun record pair ⟨p, differs⟩ => wheel record pair p (differs ∘ (sameJudged_iff _ _).2),
    fun ⟨p, k, off, on, free⟩ => alert true p k ⟨off, on⟩ free, fun ⟨p, k, on, off, free⟩ => alert false p k ⟨on, off⟩ free,
    fun law alone q => ?_⟩
  have spares := exec_spares law c starts loads t gives alone
  have free (k : Condition) : ¬ moved k := by
    rintro ⟨_, q, g, sa, sk, na, ns, da, dk, m, rfl⟩
    exact alone
  refine ⟨fun same set => (spares.wheel q set).resolve_right fun ⟨p, differs⟩ => same ⟨p, differs ∘ (sameJudged_iff _ _).1⟩,
    fun none set => (spares.alert true q set).resolve_right fun ⟨p, k, off, on⟩ => none ⟨p, k, off, on, free k⟩,
    fun none set => (spares.alert false q set).resolve_right fun ⟨p, k, on, off⟩ => none ⟨p, k, on, off, free k⟩⟩

end Sys2Proof

/-! ## The alert list: raisings, clearings, acknowledgement and the reply layouts -/

namespace Sys2Proof
open Machine Safety

/-! ### Entries and the marker (R100, R104, R106) -/

theorem Machine.AlertEntry.names_iff {e : AlertEntry} {p : Pos} {k : Condition} :
    e.names p k = true ↔ e.pos = p ∧ e.kind = k := by
  simp [AlertEntry.names]

theorem Machine.AlertEntry.evictable_iff {e : AlertEntry} : e.evictable = true ↔ e.unackA = false ∧ e.unackB = false := by
  simp [AlertEntry.evictable]

theorem Machine.AlertEntry.not_evictable_iff {e : AlertEntry} : ¬ e.evictable = true ↔ e.unackA = true ∨ e.unackB = true := by
  rw [AlertEntry.evictable_iff]
  cases e.unackA <;> simp

theorem Machine.AlertBlock.entryLeft_eq (b : AlertBlock) :
    b.entryLeft = ⟨b.entries, b.overflow, if b.overflow = [] then false else b.marker⟩ := by
  unfold AlertBlock.entryLeft
  by_cases empty : b.overflow = []
  · simp [empty]
  · simp [empty, List.isEmpty_iff]

/-- Of a list, `eraseP` takes out the first item that passes the test, and no other. -/
theorem eraseP_first {α : Type} {test : α → Bool} {before after : List α} {e : α} (fail : ∀ x ∈ before, ¬ test x = true)
    (pass : test e = true) : (before ++ e :: after).eraseP test = before ++ after := by
  rw [List.eraseP_append_right _ fail, List.eraseP_cons_of_pos pass]

/-! ### What a raising does to the list (R103 to R105) -/

section
variable {b : AlertBlock} {p : Pos} {k : Condition} {now : Uptime}

theorem Machine.AlertBlock.raising_of_room (room : b.entries.length < 64) :
    b.raising p k now = { b with entries := b.entries ++ [⟨p, k, now, true, true⟩] } := by
  unfold AlertBlock.raising
  rw [if_pos (show b.entries.length < alertCapacity from room)]
  rfl

theorem Machine.AlertBlock.raising_of_evictable {before after : List AlertEntry} {e : AlertEntry}
    (full : 64 ≤ b.entries.length) (split : b.entries = before ++ e :: after)
    (kept : ∀ x ∈ before, ¬ x.evictable = true) (leaves : e.evictable = true) :
    b.raising p k now
      = ⟨before ++ after ++ [⟨p, k, now, true, true⟩], b.overflow, if b.overflow = [] then false else b.marker⟩ := by
  have noRoom : ¬ b.entries.length < alertCapacity := Nat.not_lt.2 full
  have oneLeaves : b.entries.any AlertEntry.evictable = true := List.any_eq_true.2 ⟨e, by simp [split], leaves⟩
  unfold AlertBlock.raising
  rw [if_neg noRoom, if_pos oneLeaves, AlertBlock.evict, AlertBlock.entryLeft_eq, split, eraseP_first kept leaves]
  rfl

theorem Machine.AlertBlock.raising_of_none_evictable (full : 64 ≤ b.entries.length)
    (kept : ∀ x ∈ b.entries, ¬ x.evictable = true) : b.raising p k now = b.enterOverflow p k := by
  have noRoom : ¬ b.entries.length < alertCapacity := Nat.not_lt.2 full
  unfold AlertBlock.raising
  rw [if_neg noRoom, if_neg (by simpa using kept)]

theorem Machine.AlertBlock.mem_enterOverflow {m : Pos × Condition} :
    m ∈ (b.enterOverflow p k).overflow ↔ m ∈ b.overflow ∨ m = (p, k) := by
  unfold AlertBlock.enterOverflow
  by_cases there : (p, k) ∈ b.overflow
  · simp only [List.contains_iff_mem, there, if_true]
    exact ⟨.inl, fun h => h.elim id fun e => e ▸ there⟩
  · simp [there]

/-! ### What a clearing does to the list (R107) -/

theorem Machine.AlertBlock.clearing_of_listed {before after : List AlertEntry} {e : AlertEntry}
    (split : b.entries = before ++ e :: after) (others : ∀ x ∈ before, ¬ x.names p k = true) (named : e.names p k = true) :
    b.clearing p k = ⟨before ++ after, b.overflow, if b.overflow = [] then false else b.marker⟩ := by
  have listed : (b.entries.any fun e => e.names p k) = true := List.any_eq_true.2 ⟨e, by simp [split], named⟩
  unfold AlertBlock.clearing
  rw [if_pos listed, AlertBlock.entryLeft_eq, split, eraseP_first others named]

theorem Machine.AlertBlock.clearing_of_unlisted (unlisted : ∀ x ∈ b.entries, ¬ x.names p k = true) :
    b.clearing p k = { b with overflow := b.overflow.erase (p, k) } := by
  unfold AlertBlock.clearing
  rw [if_neg (by simpa using unlisted)]

end

/-! ### Raisings and clearings of a condition (R74, R109) -/

theorem Machine.State.raiseCond_of_active {s : State} {p : Pos} {k : Condition} (on : s.active p k = true) :
    s.raiseCond p k = s := by
  unfold State.raiseCond
  rw [if_pos on]

theorem Machine.State.clearCond_of_inactive {s : State} {p : Pos} {k : Condition} (off : s.active p k = false) :
    s.clearCond p k = s := by
  unfold State.clearCond
  rw [if_neg (by rw [off]; decide)]

/-- Settles O32: by the three cases of a raising and the two of a clearing at the alert list. -/
theorem raisingsAndClearingsReachTheAlertList : Obligations.RaisingsAndClearingsReachTheAlertList := by
  unfold Obligations.RaisingsAndClearingsReachTheAlertList
  intro s p k
  dsimp only
  refine ⟨State.raiseCond_of_active, State.clearCond_of_inactive, fun off => ?_, fun on => ?_⟩
  · have handed : (s.raiseCond p k).alerts = s.alerts.raising p k s.uptime := by
      rw [State.raiseCond_alerts, if_neg (by rw [off]; decide)]
    refine ⟨judgedFrom_of_rest (s.raiseCond_rest p k) (s.raiseCond_grown p k), by simp, State.raiseCond_flagged off,
      fun room => ?_, fun before e after full split kept markA markB => ?_, fun full kept => ?_⟩
    · rw [handed, AlertBlock.raising_of_room room]
    · rw [handed, AlertBlock.raising_of_evictable full split (fun x hx => AlertEntry.not_evictable_iff.2 (kept x hx))
        (AlertEntry.evictable_iff.2 ⟨markA, markB⟩)]
    · rw [handed, AlertBlock.raising_of_none_evictable full fun x hx => AlertEntry.not_evictable_iff.2 (kept x hx)]
      exact ⟨rfl, rfl, fun _ => AlertBlock.mem_enterOverflow⟩
  · have handed : (s.clearCond p k).alerts = s.alerts.clearing p k := by
      rw [State.clearCond_alerts, if_pos on]
    refine ⟨judgedFrom_of_rest (s.clearCond_rest p k) (s.clearCond_grown p k), by simp, State.clearCond_flagged on,
      fun before e after split others pos kind => ?_, fun unlisted => ?_⟩
    · rw [handed, AlertBlock.clearing_of_listed split (fun x hx => mt AlertEntry.names_iff.1 (others x hx))
        (AlertEntry.names_iff.2 ⟨pos, kind⟩)]
    · rw [handed, AlertBlock.clearing_of_unlisted fun x hx => mt AlertEntry.names_iff.1 (unlisted x hx)]
      exact ⟨rfl, rfl, rfl⟩

/-! ### The parameters of ACK_ALERT (R3, R110, R178) -/

theorem conditionOf_eq_some {n : Nat} {k : Condition} : conditionOf n = some k ↔ n = Condition.all.idxOf k := by
  have nodup : Condition.all.Nodup := by decide
  constructor
  · intro h
    obtain ⟨inside, rfl⟩ := List.getElem?_eq_some_iff.1 h
    exact (nodup.idxOf_getElem n inside).symm
  · rintro rfl
    exact List.getElem?_idxOf (Conditions.mem_all k)

theorem conditionOf_eq_none {n : Nat} : conditionOf n = none ↔ 9 < n := List.getElem?_eq_none_iff

theorem ackKindOf_all : ackKindOf (0xFF : Byte).toNat = some .every := rfl

theorem ackKindOf_of_ne {kind : Byte} (one : kind ≠ 0xFF) : ackKindOf kind.toNat = (conditionOf kind.toNat).map .one := by
  have code : kind.toNat ≠ 0xFF := fun h => one (BitVec.eq_of_toNat_eq h)
  unfold ackKindOf
  rw [if_neg code]
  cases conditionOf kind.toNat <;> rfl

/-- The kind parameters that R110 refuses. -/
theorem ackKindOf_eq_none {kind : Byte} : ackKindOf kind.toNat = none ↔ 9 < kind.toNat ∧ kind ≠ 0xFF := by
  by_cases every : kind = 0xFF
  · subst every
    rw [ackKindOf_all]
    decide
  · rw [ackKindOf_of_ne every, Option.map_eq_none_iff, conditionOf_eq_none, and_iff_left every]

/-- The kinds that a kind parameter covers, where R110 takes it. -/
theorem covers_of_ackKindOf {kind : Byte} {x : AckKind} (h : ackKindOf kind.toNat = some x) (k : Condition) :
    x.covers k = Claims.kindCovers kind k := by
  by_cases every : kind = 0xFF
  · subst every
    rw [ackKindOf_all] at h
    cases h
    rfl
  · rw [ackKindOf_of_ne every] at h
    obtain ⟨j, found, rfl⟩ := Option.map_eq_some_iff.1 h
    have same : kind.toNat = Condition.all.idxOf k ↔ j = k := by rw [← conditionOf_eq_some, found, Option.some_inj]
    rw [Claims.kindCovers, beq_eq_false_iff_ne.2 every, Bool.false_or, AckKind.covers, beq_eq_decide]
    simp only [same]

theorem posOf_eq_none {a k : Byte} : posOf a k = none ↔ 9 < a.toNat ∨ 3 < k.toNat := by
  constructor
  · intro h
    by_contra inside
    have named : posOf a k = some ⟨⟨a.toNat, by omega⟩, ⟨k.toNat, by omega⟩⟩ := posOf_eq_some.2 ⟨rfl, rfl⟩
    rw [h] at named
    cases named
  · intro outside
    rw [Option.eq_none_iff_forall_ne_some]
    intro p h
    obtain ⟨axle, slot⟩ := posOf_eq_some.1 h
    omega

/-! ### Acknowledgement (R110) -/

/-- ACK_ALERT of a position and a kind that R110 takes. -/
theorem exec_ackAlert {s : State} {q : PortId} (takes : Claims.Takes s q) (l : s.loading = false) {a k kind : Byte} {p : Pos}
    {x : AckKind} (hp : posOf a k = some p) (hx : ackKindOf kind.toNat = some x) :
    exec (.ackAlert q a k kind) s
      = .next (State.answer { s with alerts := s.alerts.acknowledge q p x } q .ok [byte (s.alerts.ackCount q p x)]) := by
  refine (next_loaded takes l _).trans ?_
  rw [hp, hx]

theorem exec_ackAlert_range {s : State} {q : PortId} (takes : Claims.Takes s q) (l : s.loading = false) {a k kind : Byte}
    (h : posOf a k = none ∨ ackKindOf kind.toNat = none) :
    exec (.ackAlert q a k kind) s = .next (s.answer q .range []) := by
  refine (next_loaded takes l _).trans ?_
  rcases h with h | h
  · rw [h]; rfl
  · rw [h]
    cases posOf a k <;> rfl

theorem Machine.AlertEntry.acked_eq {a k kind : Byte} {p : Pos} {x : AckKind} (hp : posOf a k = some p)
    (hx : ackKindOf kind.toNat = some x) (e : AlertEntry) :
    e.acked p x = (decide (e.pos.axle.val = a.toNat ∧ e.pos.slot.val = k.toNat) && Claims.kindCovers kind e.kind) := by
  have place : e.pos = p ↔ e.pos.axle.val = a.toNat ∧ e.pos.slot.val = k.toNat := by
    rw [← Option.some_inj, ← hp, eq_comm, posOf_eq_some, eq_comm, @eq_comm _ k.toNat]
  rw [AlertEntry.acked, covers_of_ackKindOf hx, beq_eq_decide]
  simp only [place]

/-- Settles O33: by the checks of R110, and the marks and the count of the entries that the parameters name. -/
theorem acknowledgementClearsOwnMarks : Obligations.AcknowledgementClearsOwnMarks := by
  unfold Obligations.AcknowledgementClearsOwnMarks
  intro s q a k kind takes
  dsimp only
  refine ⟨fun l => next_busy takes l _, fun l refused => ?_, fun l axle slot taken => ?_⟩
  · refine exec_ackAlert_range takes l ?_
    rwa [posOf_eq_none, ackKindOf_eq_none, or_assoc]
  · obtain ⟨p, hp⟩ : ∃ p, posOf a k = some p := Option.ne_none_iff_exists'.1 fun absent => by
      have := posOf_eq_none.1 absent
      omega
    obtain ⟨x, hx⟩ : ∃ x, ackKindOf kind.toNat = some x := Option.ne_none_iff_exists'.1 fun absent => by
      obtain ⟨above, one⟩ := ackKindOf_eq_none.1 absent
      exact taken.elim (fun below => by omega) one
    rw [exec_ackAlert takes l hp hx]
    simp only [AlertBlock.acknowledge, AlertBlock.ackCount, AlertEntry.acked_eq hp hx]
    cases q <;> rfl

/-! ### Reply layouts (R178, R183, R184, R186) -/

theorem Machine.Condition.code_eq (k : Condition) : k.code = Condition.all.idxOf k := by cases k <;> rfl

theorem mul_toNat_eq_ite (n : Nat) (b : Bool) : n * b.toNat = if b then n else 0 := by cases b <;> simp

theorem Machine.Reason.bytesOut_eq (r : Reason) :
    r.bytesOut = [(match r.axle with | some a => BitVec.ofNat 8 a.val | none => 0xFF),
      (match r.slot with | some k => BitVec.ofNat 8 k.val | none => 0x04),
      (match r.cause with
        | .noCriticalAxle => 0 | .noSensor => 1 | .notLive => 2 | .lowAlarm => 3 | .leak => 4 | .imbalance => 5
        | .sideBalance => 6)] := by
  obtain ⟨axle, slot, cause⟩ := r
  cases axle <;> cases slot <;> cases cause <;> rfl

theorem toNat_eq_ite (b : Bool) : b.toNat = if b then 1 else 0 := by cases b <;> rfl

/-- Byte 0 of READ_PERMIT (R184). -/
theorem permitByte_eq (x : Permit) :
    (x.verdict == .granted).toNat + 2 * (x.basis == .evaluated).toNat + 4 * x.latched.toNat + 8 * x.more.toNat
      = (if x.verdict = .granted then 1 else 0) + (if x.basis = .evaluated then 2 else 0) + (if x.latched then 4 else 0)
        + (if x.more then 8 else 0) := by
  simp only [mul_toNat_eq_ite]
  simp only [toNat_eq_ite, beq_iff_eq]

/-- Dirty is the stored generation differing from the working one, INVALID too (R164). -/
theorem Machine.State.dirty_toNat (s : State) :
    4 * s.dirty.toNat = if s.store.storedGeneration = some s.generation then 0 else 4 := by
  unfold State.dirty
  cases s.store.storedGeneration with
  | none => rfl
  | some g => by_cases same : g = s.generation <;> simp [same]

/-- Byte 2 of STORE_STATUS (R186). -/
theorem storeByte_eq (s : State) :
    s.store.imageValid.toNat + 2 * s.store.storedGeneration.isSome.toNat + 4 * s.dirty.toNat
      = (if s.store.imageValid then 1 else 0) + (if s.store.storedGeneration.isSome then 2 else 0)
        + (if s.store.storedGeneration = some s.generation then 0 else 4) := by
  rw [State.dirty_toNat, mul_toNat_eq_ite, toNat_eq_ite]

theorem Machine.AlertEntry.bytesOut_eq (e : AlertEntry) :
    e.bytesOut = [BitVec.ofNat 8 e.pos.axle.val, BitVec.ofNat 8 e.pos.slot.val, BitVec.ofNat 8 (Condition.all.idxOf e.kind),
      BitVec.ofNat 8 ((if e.unackA then 1 else 0) + (if e.unackB then 2 else 0))] ++ Claims.four e.raisedAt := by
  rw [AlertEntry.bytesOut, bytes4_eq, Condition.code_eq, mul_toNat_eq_ite, toNat_eq_ite]
  rfl

theorem byte_storeState (x : StoreState) :
    byte x.code = (match x with | .loading => 0 | .idle => 1 | .pending => 2 | .writing _ => 3) := by cases x <;> rfl

theorem byte_writeOutcome (x : WriteOutcome) : byte x.code = (match x with | .none => 0 | .ok => 1 | .fault => 2) := by
  cases x <;> rfl

/-- Settles O15: from the bytes of a reason, of an alert entry and of the fields of each reply. -/
theorem permitStoreAndAlertReplyLayouts : Obligations.PermitStoreAndAlertReplyLayouts := by
  unfold Obligations.PermitStoreAndAlertReplyLayouts
  intro s q takes
  refine ⟨fun l => ?_, ⟨_, _, rfl, rfl, fun l => ?_, fun l => ?_⟩, fun i l inside => ?_⟩
  · refine (next_loaded takes l _).trans ?_
    rw [Permit.bytesOut, permitByte_eq, funext Reason.bytesOut_eq]
    rfl
  · refine (next_taken takes _).trans ?_
    rw [State.storeBytes, if_pos l, byte_storeState, byte_writeOutcome]
    rfl
  · refine (next_taken takes _).trans ?_
    rw [State.storeBytes, if_neg (by rw [l]; decide), byte_storeState, byte_writeOutcome, storeByte_eq]
    rfl
  · refine (next_loaded takes l _).trans ?_
    rw [if_pos inside, AlertBlock.bytesFrom, funext AlertEntry.bytesOut_eq]
    cases s.alerts.marker <;> rfl

end Sys2Proof

/-! ## The verdict record, what an evaluation finds, and PERMIT -/

namespace Sys2Proof
open Machine Safety

/-- What an event can change of the verdict: the record, the body that latches it, the reasons an evaluation would find, and
PERMIT on each port. -/
structure Ruling where
  permit : Permit
  body : BodyState
  reasons : List Reason
  flag : PortId → Bool

/-- The ruling as a state holds it. -/
def Machine.State.ruling (s : State) : Ruling :=
  ⟨s.permit, s.vehicle.body, s.fullReasons, fun q => (s.port q).flag .permit⟩

/-- The ruling without the reasons, which judging wheels may change. -/
def Machine.State.held (s : State) : Ruling := { s.ruling with reasons := [] }

/-- What the reasons read of a record (R116, R117). -/
def Machine.WheelRecord.grounds (r : WheelRecord) : WheelState × Option Int × Conditions :=
  (r.state, r.livePressure, r.conditions)

section
variable {s t : State}

theorem Machine.WheelRecord.causes_of_grounds {r u : WheelRecord} (h : r.grounds = u.grounds) : r.causes = u.causes := by
  simp only [WheelRecord.grounds, Prod.mk.injEq] at h
  obtain ⟨state, _, conditions⟩ := h
  unfold WheelRecord.causes
  rw [state, conditions]

theorem Machine.State.fullReasons_of_rest (rest : t.rest = s.rest) (grounds : ∀ p, (t.wheel p).grounds = (s.wheel p).grounds) :
    t.fullReasons = s.fullReasons := by
  have axle : t.axle = s.axle := funext (State.axle_of_rest rest)
  have levels : t.levelsOf = s.levelsOf := funext (State.levelsOf_of_rest rest)
  have vehicle : t.vehicle = s.vehicle := (congrArg State.vehicle rest :)
  have live (p : Pos) : (t.wheel p).livePressure = (s.wheel p).livePressure := congrArg (·.2.1) (grounds p)
  have causes (p : Pos) : (t.wheel p).causes = (s.wheel p).causes := WheelRecord.causes_of_grounds (grounds p)
  have considered : t.considered = s.considered := by funext a; simp only [State.considered, axle, vehicle]
  have slots : t.validSlots = s.validSlots := by
    funext a
    simp only [State.validSlots, show t.validPos = s.validPos by funext p; simp only [State.validPos, axle]]
  have side : t.sideReason = s.sideReason := by
    funext a
    simp only [State.sideReason, State.sideMeans, axle, live, levels]
  have reasons : t.axleReasons = s.axleReasons := by funext a; simp only [State.axleReasons, slots, causes, side]
  simp only [State.fullReasons, considered, reasons]

theorem Machine.State.ruling_of_rest (rest : t.rest = s.rest) (grounds : ∀ p, (t.wheel p).grounds = (s.wheel p).grounds)
    (permit : t.permit = s.permit) (flags : ∀ q, (t.port q).flag .permit = (s.port q).flag .permit) : t.ruling = s.ruling := by
  have vehicle : t.vehicle = s.vehicle := (congrArg State.vehicle rest :)
  unfold State.ruling
  rw [permit, vehicle, State.fullReasons_of_rest rest grounds, funext flags]

theorem Machine.State.held_of_ruling (h : t.ruling = s.ruling) : t.held = s.held := by
  unfold State.held
  rw [h]

end

/-! ### Updates that no ruling reads -/

section
variable (s : State) (q : PortId)

theorem Machine.State.setPort_ruling {x : Port} (flag : x.flag .permit = (s.port q).flag .permit) :
    (s.setPort q x).ruling = s.ruling := by
  have flags : (fun r => ((s.setPort q x).port r).flag .permit) = fun r => (s.port r).flag .permit := by
    funext r
    rw [State.setPort_port]
    split
    · next same => rw [← same, flag]
    · rfl
  unfold State.ruling
  rw [flags]
  cases q <;> rfl

@[simp] theorem Machine.State.answer_ruling (st : Status) (bs : List Byte) : (s.answer q st bs).ruling = s.ruling :=
  s.setPort_ruling q rfl

@[simp] theorem Machine.State.refuse_ruling (st : Status) : (s.refuse q st).ruling = s.ruling := s.answer_ruling q st []

@[simp] theorem Machine.State.setStaging_ruling (g : Option Staging) : (s.setStaging q g).ruling = s.ruling :=
  s.setPort_ruling q rfl

theorem Machine.State.setFlag_ruling {f : EventFlag} (other : f ≠ .permit) : (s.setFlag q f).ruling = s.ruling :=
  s.setPort_ruling q (by rw [Port.flag_or_bit, beq_false_of_ne other, Bool.or_false])

theorem Machine.State.setFlagBoth_ruling {f : EventFlag} (other : f ≠ .permit) : (s.setFlagBoth f).ruling = s.ruling :=
  (State.setFlag_ruling _ .b other).trans (s.setFlag_ruling .a other)

theorem Machine.State.setFlagIf_ruling (c : Bool) {f : EventFlag} (other : f ≠ .permit) :
    (s.setFlagIf c f).ruling = s.ruling := by
  cases c
  · rfl
  · exact s.setFlagBoth_ruling other

@[simp] theorem Machine.State.noteWheels_ruling (b : State) : (b.noteWheels s).ruling = s.ruling :=
  s.setFlagIf_ruling _ (by decide)

@[simp] theorem Machine.State.vehicleTaken_ruling (item : Nat) (v : Half) : (s.vehicleTaken q item v).ruling = s.ruling :=
  (State.answer_ruling _ q _ _).trans (s.setFlag_ruling _ (by decide))

@[simp] theorem Machine.State.setReceiver_ruling (ch : Channel) (r : Receiver) : (s.setReceiver ch r).ruling = s.ruling := by
  cases ch <;> rfl

@[simp] theorem Machine.State.endSession_ruling (o : LearnOutcome) : (s.endSession o).ruling = s.ruling :=
  State.setFlagBoth_ruling { s with learn := ⟨none, o⟩ } (by decide)

theorem Machine.State.setWheels_ruling {f : Fin 40 → WheelRecord} (grounds : ∀ i, (f i).grounds = s.wheels[i].grounds) :
    State.ruling { s with wheels := tabulate f } = s.ruling :=
  State.ruling_of_rest rfl (fun p => by rw [State.tabulate_wheel]; exact grounds p.idx) rfl fun _ => rfl

@[simp] theorem Machine.State.resetCounts_ruling : s.resetCounts.ruling = s.ruling := s.setWheels_ruling fun _ => rfl

@[simp] theorem Machine.State.moveSilenceRefs_ruling : s.moveSilenceRefs.ruling = s.ruling :=
  s.setWheels_ruling fun i => by
    dsimp only
    split <;> rfl

@[simp] theorem Machine.State.noteRssi_ruling (p : Pos) (e : QueueEntry) : (s.noteRssi p e).ruling = s.ruling := by
  unfold State.noteRssi
  split
  · rfl
  · refine State.ruling_of_rest rfl (fun r => ?_) rfl fun _ => rfl
    rw [State.modWheel_wheel]
    split
    · next same =>
      rw [← same]
      unfold WheelRecord.recordRssi
      cases e.channel <;> rfl
    · rfl

end
end Sys2Proof

/-! ## Judging leaves the verdict record, the body and PERMIT -/

namespace Sys2Proof
open Machine Safety
open Machine.State (Stages Clears)

section
variable {s t : State}

theorem Machine.State.setFlagBoth_held (s : State) {f : EventFlag} (other : f ≠ .permit) : (s.setFlagBoth f).held = s.held :=
  State.held_of_ruling (s.setFlagBoth_ruling other)

/-! ### Conditions -/

@[simp] theorem Machine.State.raiseCond_held (s : State) (p : Pos) (k : Condition) : (s.raiseCond p k).held = s.held := by
  unfold State.raiseCond
  split
  · rfl
  · rw [State.setFlagBoth_held _ (by decide)]
    rfl

@[simp] theorem Machine.State.clearCond_held (s : State) (p : Pos) (k : Condition) : (s.clearCond p k).held = s.held := by
  unfold State.clearCond
  split
  · rw [State.setFlagBoth_held _ (by decide)]
    rfl
  · rfl

@[simp] theorem Machine.State.modWheel_held (s : State) (p : Pos) (f : WheelRecord → WheelRecord) :
    (s.modWheel p f).held = s.held := rfl

theorem Machine.State.Stages.held {p : Pos} (h : Stages p s t) : t.held = s.held := by
  induction h with
  | refl => rfl
  | raise k _ _ ih => rw [State.raiseCond_held, ih]
  | clear k _ _ ih => rw [State.clearCond_held, ih]
  | write f _ _ _ ih => rw [State.modWheel_held, ih]

theorem Machine.State.Clears.held (h : Clears s t) : t.held = s.held := by
  induction h with
  | refl => rfl
  | clear p k _ ih => rw [State.clearCond_held, ih]

end

section
variable (s : State)

/-! ### Re-evaluation, silence and entries -/

@[simp] theorem Machine.State.checkPair_held (p : Pos) : (s.checkPair p).held = s.held := by
  unfold State.checkPair
  split
  · split
    · dsimp only
      split
      · simp [State.raisePair]
      · split
        · exact (s.clearPair_clears p).held
        · rfl
    · rfl
  · rfl

theorem Machine.State.reevaluateAt_held (p : Pos) : (s.reevaluateAt p).held = s.held := by
  unfold State.reevaluateAt
  split
  · exact (s.judgePressure_stages p none _).held
  · rfl

theorem Machine.State.reevaluateAxle_held (a : Fin 10) : (s.reevaluateAxle a).held = s.held := by
  simp only [State.reevaluateAxle, State.checkPair_held]
  exact State.atEach_same State.held _ State.reevaluateAt_held s _

@[simp] theorem Machine.State.targetChange_held (f : Fin 10 → Bool) : (s.targetChange f).held = s.held :=
  foldl_same State.held _ State.reevaluateAxle_held _ s

@[simp] theorem Machine.State.expireAt_held (p : Pos) : (s.expireAt p).held = s.held := by
  unfold State.expireAt
  rw [(State.clearPair_clears _ p).held, State.raiseCond_held, State.modWheel_held]

@[simp] theorem Machine.State.expireDue_held : s.expireDue.held = s.held :=
  State.atEach_same State.held _ (fun t p => by split <;> simp) s _

@[simp] theorem Machine.State.readEntry_held (e : QueueEntry) : (s.readEntry e).held = s.held := by
  unfold State.readEntry State.applyEntry
  split
  · next p _ =>
    split
    · split
      · exact (State.acceptEntry_stages _ p e).held.trans (by simp)
      · rw [State.acceptReading_eq, State.checkPair_held, (s.readingJudged_stages p e).held]
    · exact State.held_of_ruling (s.noteRssi_ruling p e)
  · rfl

/-! ### The trailer -/

@[simp] theorem Machine.State.attachAt_held (p : Pos) : (s.attachAt p).held = s.held := by
  unfold State.attachAt
  split <;> rfl

@[simp] theorem Machine.State.attachTrailer_held : s.attachTrailer.held = s.held :=
  State.atEach_same State.held _ State.attachAt_held s _

@[simp] theorem Machine.State.detachAll_held (ps : List Pos) : (s.detachAll ps).held = s.held := by
  unfold State.detachAll
  rw [State.atEach_same State.held _ fun t p => t.modWheel_held p _, (s.clearRecords_clears _).held]

theorem Machine.State.cancelTrailerSession_held : s.cancelTrailerSession.held = s.held := by
  unfold State.cancelTrailerSession
  split
  · split
    · exact State.held_of_ruling (s.endSession_ruling _)
    · rfl
  · rfl

/-! ### Map edits and results of learning -/

@[simp] theorem Machine.State.emptyAll_held (ps : List Pos) : (s.emptyAll ps).held = s.held :=
  (State.atEach_same State.held State.blank (fun _ _ => rfl) _ ps).trans (s.clearRecords_clears ps).held

@[simp] theorem Machine.State.freshAt_held (p : Pos) (id : SensorId) : (s.freshAt p id).held = s.held := by
  have written (u : State) (r : WheelRecord) : ((u.setWheel p r).setSlot p (some id)).held = u.held := rfl
  exact (written _ _).trans (s.clearRecords_clears [p]).held

theorem Machine.State.placeStaged_held (e : Pos × Option SensorId) : (s.placeStaged e).held = s.held := by
  unfold State.placeStaged
  split
  · rfl
  · split
    · split <;> simp [State.emptyAt_eq]
    · exact s.freshAt_held _ _

theorem Machine.State.applyResult_held (staging : List (Pos × Option SensorId)) : (s.applyResult staging).held = s.held := by
  unfold State.applyResult
  rw [State.held_of_ruling (State.setFlagIf_ruling _ _ (by decide)), State.setFlagBoth_held _ (by decide)]
  exact foldl_same State.held _ State.placeStaged_held staging s

@[simp] theorem Machine.State.advance_held (l : Session) (id : Option SensorId) : (s.advance l id).held = s.held := by
  rcases s.advance_cases l id with ⟨staging, ends⟩ | ⟨l', goes⟩
  · rw [ends, State.held_of_ruling (State.endSession_ruling _ _), State.applyResult_held]
  · rw [goes, State.setFlagBoth_held _ (by decide)]
    rfl

@[simp] theorem Machine.State.handOver_held (e : QueueEntry) : (s.handOver e).held = s.held := by
  unfold State.handOver
  split
  · split
    · exact s.advance_held _ _
    · rfl
  · rfl

theorem Machine.State.unitChange_held (a : Fin 10) (old : AxleRecord) : (s.unitChange a old).held = s.held := by
  unfold State.unitChange
  split
  · split
    · exact s.detachAll_held _
    · rw [State.atEach_same State.held _ fun t p => (t.clearPair_clears p).held,
        State.atEach_same State.held _ State.attachAt_held]
  · rfl

theorem Machine.State.dropLift_held (a : Fin 10) : (s.dropLift a).held = s.held := by
  unfold State.dropLift
  split
  · rw [State.setFlagBoth_held _ (by decide)]
    rfl
  · rfl

theorem Machine.State.setAxle_held (a : Fin 10) (r : AxleRecord) : (s.setAxle a r).held = s.held := by
  have settled : ((s.axleSettled a r).dropLift a).held = s.held := by
    rw [State.dropLift_held, State.axleSettled, State.unitChange_held]
    exact s.emptyAll_held (s.slotsLost a r)
  rw [State.setAxle_eq]
  split
  · rw [State.targetChange_held, settled]
  · exact settled

theorem Machine.State.moved_held (m : Move) : (s.moved m).held = s.held := (s.moveClearings_clears m).held

end

end Sys2Proof

/-! ## What an event makes of the verdict -/

namespace Sys2Proof
open Machine Safety
open Machine.Result (gives_next)

/-- The record an evaluation gives for a ruling, whose verdict before was the one given (R118, R120). -/
def Ruling.evaluation (x : Ruling) (before : Verdict) : Permit :=
  let out := latchRule x.body before (if x.reasons.isEmpty then .granted else .withheld)
  { verdict := out.1
    basis := .evaluated
    latched := out.2
    reasons := x.reasons.take 8
    more := decide (8 < x.reasons.length) }

theorem Machine.State.evaluatedPermit_eq (s : State) : s.evaluatedPermit = s.ruling.evaluation s.permit.verdict := rfl

/-- The latch that a body write leaves while the basis is STARTING (R122). -/
def latchAtStart (before after : BodyState) (held : Bool) : Bool :=
  if after = .down then false else if before = .down then true else held

/-- What an event can make of the verdict record x: it stays, and so do the reasons of an evaluated one; it is evaluated; or
it is not evaluated yet and only the latch follows the body. -/
inductive Ruling.Rules (x y : Ruling) : Prop
  | stays (permit : y.permit = x.permit) (body : y.body = x.body)
      (reasons : x.permit.basis = .evaluated → y.reasons = x.reasons)
  | evaluated (permit : y.permit = y.evaluation x.permit.verdict)
  | latched (starting : x.permit.basis = .starting)
      (permit : y.permit = { x.permit with latched := latchAtStart x.body y.body x.permit.latched })

/-- Verdict or latch changes (R124). -/
def Ruling.Changes (x y : Ruling) : Prop := y.permit.verdict ≠ x.permit.verdict ∨ y.permit.latched ≠ x.permit.latched

/-- What an event makes of a ruling, with PERMIT set exactly by a change. -/
structure Ruling.Becomes (x y : Ruling) : Prop where
  rules : x.Rules y
  sets : x.Changes y → ∀ q, y.flag q = true
  spares : ∀ q, y.flag q = true → x.flag q = true ∨ x.Changes y

theorem Ruling.Becomes.of_stays {x y : Ruling} (permit : y.permit = x.permit) (body : y.body = x.body)
    (reasons : x.permit.basis = .evaluated → y.reasons = x.reasons) (flags : ∀ q, y.flag q = true → x.flag q = true) :
    x.Becomes y where
  rules := .stays permit body reasons
  sets changes := by
    unfold Ruling.Changes at changes
    rw [permit] at changes
    exact absurd changes (by simp)
  spares q set := .inl (flags q set)

theorem Ruling.Becomes.refl (x : Ruling) : x.Becomes x := .of_stays rfl rfl (fun _ => rfl) fun _ set => set

section
variable {s t u : State}

theorem Machine.State.becomes_of_ruling (same : t.ruling = s.ruling) : s.ruling.Becomes t.ruling := by
  rw [same]
  exact .refl _

/-- A reply after the event. -/
theorem Ruling.Becomes.answer (h : s.ruling.Becomes t.ruling) (q : PortId) (st : Status) (bs : List Byte) :
    s.ruling.Becomes (t.answer q st bs).ruling := by
  rw [State.answer_ruling]
  exact h

theorem Ruling.Becomes.vehicleTaken (h : s.ruling.Becomes t.ruling) (q : PortId) (item : Nat) (v : Half) :
    s.ruling.Becomes (t.vehicleTaken q item v).ruling := by
  rw [State.vehicleTaken_ruling]
  exact h

theorem Machine.State.becomes_refuse (s : State) (q : PortId) (st : Status) : s.ruling.Becomes (s.refuse q st).ruling :=
  State.becomes_of_ruling (s.refuse_ruling q st)

theorem Ruling.Becomes.transact {q : PortId} {f : State → State} (taken : s.ruling.Becomes (f s).ruling) :
    s.ruling.Becomes (s.transact q f).ruling :=
  State.transact_cases (fun t => s.ruling.Becomes t.ruling) taken (State.becomes_of_ruling (s.setPort_ruling q rfl))

theorem Ruling.Becomes.unlessLoading {q : PortId} {f : State → State} (taken : s.ruling.Becomes (f s).ruling) :
    s.ruling.Becomes (s.unlessLoading q f).ruling := by
  refine .transact ?_
  split
  · exact s.becomes_refuse q _
  · exact taken

/-! ### Writing the record -/

theorem Machine.State.signal_ruling (s : State) (c : Bool) :
    (s.setFlagIf c .permit).ruling = { s.ruling with flag := fun q => s.ruling.flag q || c } := by
  cases c
  · exact congrArg (Ruling.mk _ _ _) (funext fun q => (Bool.or_false _).symm)
  · exact congrArg (Ruling.mk _ _ _) (funext fun q => s.setFlagBoth_flag .permit .permit q)

/-- A record written: PERMIT is set if verdict or latch changes (R124). -/
theorem Machine.State.putPermit_ruling (u : State) (x : Permit) : (u.putPermit x).ruling
    = { u.ruling with
        permit := x
        flag := fun q => u.ruling.flag q || (x.verdict != u.permit.verdict || x.latched != u.permit.latched) } := by
  refine (State.signal_ruling { u with permit := x } _).trans (congrArg (Ruling.mk _ _ _) (funext fun q => ?_))
  cases q <;> rfl

theorem Machine.State.becomes_putPermit {x : Permit} (permit : u.permit = s.permit) (flags : u.ruling.flag = s.ruling.flag)
    (rules : ∀ f, s.ruling.Rules { u.ruling with permit := x, flag := f }) : s.ruling.Becomes (u.putPermit x).ruling := by
  have changes (f : PortId → Bool) : s.ruling.Changes { u.ruling with permit := x, flag := f }
      ↔ (x.verdict != u.permit.verdict || x.latched != u.permit.latched) = true := by
    rw [permit]
    simp [Ruling.Changes, State.ruling]
  rw [State.putPermit_ruling, flags]
  refine ⟨rules _, fun changed q => ?_, fun q set => ?_⟩
  · exact Bool.or_eq_true_iff.2 (.inr ((changes _).1 changed))
  · exact (Bool.or_eq_true_iff.1 set).imp_right (changes _).2

theorem Machine.State.evaluate_eq (evaluated : s.permit.basis = .evaluated) :
    s.evaluate = s.putPermit s.evaluatedPermit := by
  unfold State.evaluate
  rw [evaluated]

/-- Judging, then an evaluation: none is made while the basis is STARTING (R119, R122). -/
theorem Machine.State.becomes_evaluate (judged : u.held = s.held) : s.ruling.Becomes u.evaluate.ruling := by
  have permit : u.permit = s.permit := congrArg Ruling.permit judged
  have flags : u.ruling.flag = s.ruling.flag := (congrArg Ruling.flag judged :)
  unfold State.evaluate
  split
  · next starting =>
    refine .of_stays permit (congrArg Ruling.body judged :) (fun evaluated => ?_) fun q set => (congrFun flags q).symm.trans set
    rw [permit] at starting
    exact absurd (starting.symm.trans evaluated) nofun
  · refine State.becomes_putPermit permit flags fun _ => .evaluated ?_
    rw [State.evaluatedPermit_eq, permit]
    rfl

end
end Sys2Proof

/-! ## What every command makes of the verdict -/

namespace Sys2Proof
open Machine Safety
open Machine.Result (gives_next)

/-- What a command makes of the verdict, from any state. -/
def Rulings (s : State) (r : Result) : Prop := Result.Gives (fun t => s.ruling.Becomes t.ruling) r

/-! ### Commands of which the verdict hears nothing -/

section
variable (s : State)

theorem Machine.State.supplyToNormal_ruling : s.supplyToNormal.ruling = s.ruling := by
  have timer (u : State) : u.moveTimerStart.ruling = u.ruling := by
    unfold State.moveTimerStart
    split <;> rfl
  have write (u : State) : u.beginPendingWrite.ruling = u.ruling := by
    unfold State.beginPendingWrite
    split <;> rfl
  unfold State.supplyToNormal
  rw [State.setFlagBoth_ruling _ (by decide), write, timer, State.moveSilenceRefs_ruling]
  rfl

theorem Machine.State.judgeSample_ruling (v : Nat) : (s.judgeSample v).ruling = s.ruling := by
  unfold State.judgeSample
  dsimp only
  split
  · split
    · exact State.setFlagBoth_ruling { s with supply := { s.supply with state := .low, recovery := 0 } } (by decide)
    · rfl
  · split
    · split
      · rfl
      · exact s.supplyToNormal_ruling
    · rfl

theorem Machine.State.completeTelegram_ruling (ch : Channel) (rssi : Int) (bits : List Bool) :
    (s.completeTelegram ch rssi bits).ruling = s.ruling := by
  unfold State.completeTelegram State.offer
  split
  · split
    · rfl
    · exact State.setFlagBoth_ruling { s with lostPending := true } (by decide)
  · rfl

theorem Machine.State.completeWrite_ruling (i : Image) (ok : Bool) : (s.completeWrite i ok).ruling = s.ruling := by
  unfold State.completeWrite
  rw [State.setFlagBoth_ruling _ (by decide)]
  split <;> rfl

theorem Machine.State.expireTimer_ruling : s.expireTimer.ruling = s.ruling := by
  unfold State.expireTimer
  split
  · exact s.endSession_ruling _
  · rfl

theorem Machine.State.putSession_ruling (l : Learn) : (State.setFlagBoth { s with learn := l } .learn).ruling = s.ruling :=
  State.setFlagBoth_ruling { s with learn := l } (by decide)

theorem Machine.State.putAmbient_ruling (x : Int) (w : Option PortId) :
    State.ruling { s with vehicle := { s.vehicle with ambient := x, ambientWriter := w } } = s.ruling := rfl

end

/-- The commands that change no input of an evaluation, so that none is made (R119). -/
def Instr.unruled : Instr → Bool
  | .uptimeTick | .vsenseSample .. | .telegramCompletion .. | .positionTimerExpiry | .writeBegin | .writeCompletion ..
  | .malformedCommandFrame .. | .nop .. | .readId .. | .getEvents .. | .setEventMask .. | .portReset .. | .readWheels ..
  | .readAxles .. | .readAlerts .. | .ackAlert .. | .readPermit .. | .setVehicleAmbient .. | .readVehicle .. | .readConfig ..
  | .mapProtect .. | .profileSelect .. | .profileRead .. | .learnStart .. | .learnAbort .. | .learnStatus .. | .storeCommit ..
  | .storeStatus .. | .syncDetected .. | .lineCodingViolation .. => true
  | _ => false

section
variable {s : State}

/-- A reply to a transaction, from a state of the same ruling. -/
theorem rulings_reply (q : PortId) {f : State → State} (same : (f s).ruling = s.ruling) : Rulings s (.next (s.transact q f)) :=
  gives_next (.transact (State.becomes_of_ruling same))

theorem rulings_loadedReply (q : PortId) {f : State → State} (same : (f s).ruling = s.ruling) :
    Rulings s (.next (s.unlessLoading q f)) := gives_next (.unlessLoading (State.becomes_of_ruling same))

/-- A read that checks its parameters (R99, R28, R113). -/
theorem rulings_checkedRead (s : State) (q : PortId) (c : Prop) [Decidable c] (f : State → List Byte) :
    Rulings s (.next (s.unlessLoading q fun s => if c then s.answer q .ok (f s) else s.refuse q .range)) := by
  refine rulings_loadedReply q ?_
  split <;> simp

theorem resetFlags_permit (b : AlertBlock) : (resetFlags b).getLsbD EventFlag.permit.number = false := by
  unfold resetFlags
  split <;> decide

/-- Flags that a port drops, or sets but PERMIT: GET_EVENTS and PORT_RESET (R173, R175). -/
theorem Machine.State.becomes_setPort (s : State) (q : PortId) {x : Port}
    (drops : x.flag .permit = true → (s.port q).flag .permit = true) : s.ruling.Becomes (s.setPort q x).ruling := by
  have reasons : (s.setPort q x).fullReasons = s.fullReasons := by cases q <;> rfl
  refine .of_stays (s.setPort_permit q x) (congrArg Vehicle.body (s.setPort_vehicle q x)) (fun _ => reasons) fun r set => ?_
  have set : ((s.setPort q x).port r).flag .permit = true := set
  rw [State.setPort_port] at set
  split at set
  · next same => exact same ▸ drops set
  · exact set

theorem rulings_unruled (s : State) {c : Instr} (unruled : c.unruled = true) : Rulings s (exec c s) := by
  have replied (u : State) (same : u.ruling = s.ruling) (q : PortId) (st : Status) (bs : List Byte) :
    (u.answer q st bs).ruling = s.ruling := (u.answer_ruling q st bs).trans same
  have stays {t : State} (same : t.ruling = s.ruling) : Rulings s (.next t) := gives_next (State.becomes_of_ruling same)
  cases c with
  | uptimeTick => exact stays rfl
  | vsenseSample level =>
    show Rulings s (execVsenseSample level s)
    unfold execVsenseSample
    split
    · exact stays (State.judgeSample_ruling _ _)
    · exact stays rfl
  | telegramCompletion ch bits =>
    show Rulings s (execTelegramCompletion ch bits s)
    unfold execTelegramCompletion
    split
    · exact stays rfl
    · split
      · exact stays ((State.completeTelegram_ruling _ ch _ _).trans (s.setReceiver_ruling ch _))
      · exact stays (s.setReceiver_ruling ch _)
  | positionTimerExpiry => exact stays s.expireTimer_ruling
  | writeBegin =>
    show Rulings s (execWriteBegin s)
    unfold execWriteBegin
    split <;> exact stays rfl
  | writeCompletion ok =>
    show Rulings s (execWriteCompletion ok s)
    unfold execWriteCompletion
    split
    · exact stays (s.completeWrite_ruling _ ok)
    · exact stays rfl
  | malformedCommandFrame q sdi =>
    refine rulings_reply q ?_
    split
    · exact s.refuse_ruling q _
    · rfl
  | nop q => exact rulings_reply q (s.answer_ruling q _ _)
  | readId q => exact rulings_reply q (s.answer_ruling q _ _)
  | getEvents q => exact gives_next (.transact (.answer (s.becomes_setPort q fun set => by simp [Port.flag] at set) q _ _))
  | setEventMask q m =>
    exact rulings_reply q (replied _ (s.setPort_ruling q (x := { s.port q with mask := m.setWidth 11 }) rfl) q _ _)
  | portReset q =>
    refine gives_next (.unlessLoading (.answer ?_ q _ _))
    refine State.becomes_setPort { s with alerts := s.alerts.unackAll q } q fun set => ?_
    rw [Port.flag, resetFlags_permit] at set
    cases set
  | readWheels q a b c d =>
    refine rulings_loadedReply q ?_
    split
    · exact replied { s with freeIndex := s.freeIndex + 1 } rfl q _ _
    · exact s.refuse_ruling q _
  | readAxles q a n => exact rulings_checkedRead s q _ _
  | readAlerts q n => exact rulings_checkedRead s q _ _
  | ackAlert q a b k =>
    refine rulings_loadedReply q ?_
    split
    · next p k _ _ => exact replied { s with alerts := s.alerts.acknowledge q p k } rfl q _ _
    · exact s.refuse_ruling q _
  | readPermit q => exact rulings_loadedReply q (s.answer_ruling q _ _)
  | setVehicleAmbient q v =>
    exact rulings_reply q ((State.vehicleTaken_ruling _ q _ _).trans (s.putAmbient_ruling _ _))
  | readVehicle q => exact rulings_reply q (s.answer_ruling q _ _)
  | readConfig q => exact rulings_loadedReply q (s.answer_ruling q _ _)
  | mapProtect q g a f l =>
    refine rulings_loadedReply q ?_
    split
    · exact s.refuse_ruling q _
    · next r _ =>
      split
      · exact s.refuse_ruling q _
      · exact replied _ (State.setFlagBoth_ruling { s with protect := r, generation := s.generation + 1 } (by decide)) q _ _
  | profileSelect q n f =>
    refine rulings_loadedReply q ?_
    split
    · exact replied _ (s.setStaging_ruling q _) q _ _
    · exact s.refuse_ruling q _
  | profileRead q n =>
    refine rulings_loadedReply q ?_
    split
    · exact s.refuse_ruling q _
    · exact s.answer_ruling q _ _
  | learnStart q g a b =>
    refine rulings_reply q ?_
    split
    · exact s.refuse_ruling q _
    · exact replied _ (s.putSession_ruling _) q _ _
  | learnAbort q =>
    refine rulings_loadedReply q ?_
    split
    · exact s.refuse_ruling q _
    · exact replied _ (s.endSession_ruling _) q _ _
  | learnStatus q => exact rulings_loadedReply q (s.answer_ruling q _ _)
  | storeCommit q =>
    refine rulings_reply q ?_
    split
    · exact replied s.beginWrite rfl q _ _
    · exact replied { s with store := { s.store with state := .pending } } rfl q _ _
    · exact s.refuse_ruling q _
  | storeStatus q => exact rulings_reply q (s.answer_ruling q _ _)
  | syncDetected ch bits level => exact stays (s.setReceiver_ruling ch _)
  | lineCodingViolation ch => exact stays (s.setReceiver_ruling ch _)
  | _ => cases unruled

end

/-! ### Events that an evaluation ends -/

section
variable (s : State)

theorem Machine.State.noteWheels_held (b a : State) : (b.noteWheels a).held = a.held :=
  State.held_of_ruling (a.noteWheels_ruling b)

/-- Vehicle items other than the body, which judging reads and the ruling does not hold. -/
theorem Machine.State.putVehicle_held {v : Vehicle} (body : v.body = s.vehicle.body) :
    State.held { s with vehicle := v } = s.held := by
  unfold State.held State.ruling
  simp only [body]
  rfl

theorem Machine.State.takeExpiries_becomes {u : State} (same : u.held = s.held) : s.ruling.Becomes u.takeExpiries.ruling :=
  State.becomes_evaluate (by rw [State.noteWheels_held, State.expireDue_held, same])

/-- What every taken edit of slots does besides its own changes (R14). -/
theorem Machine.State.editTaken_becomes {u : State} (same : u.held = s.held) (w : Bool) :
    s.ruling.Becomes (u.editTaken w).ruling := by
  refine State.becomes_evaluate ?_
  rw [State.held_of_ruling (State.setFlagIf_ruling _ w (by decide)), State.setFlagBoth_held _ (by decide)]
  exact same

theorem Machine.State.advance_ruling {l : Session} (more : l.atLast = false) (id : Option SensorId) :
    (s.advance l id).ruling = s.ruling := by
  have next : l.cursor + 1 < l.positions.length := by simpa [Session.atLast] using more
  have here : l.here = some l.positions[l.cursor] := List.getElem?_eq_getElem (by omega)
  rw [s.advance_more id here next]
  exact s.putSession_ruling _

theorem Machine.State.handOver_ruling {e : QueueEntry} (stays : s.handOverApplies e = false) :
    (s.handOver e).ruling = s.ruling := by
  unfold State.handOverApplies at stays
  unfold State.handOver
  split
  · next l running =>
    rw [running] at stays
    split
    · next staged =>
      dsimp only at stays
      rw [staged, Bool.true_and] at stays
      exact s.advance_ruling stays _
    · rfl
  · rfl

theorem Machine.State.readEntry_ruling {e : QueueEntry} (ignored : s.acceptsEntry e = false) :
    (s.readEntry e).ruling = s.ruling := by
  unfold State.acceptsEntry at ignored
  unfold State.readEntry State.applyEntry
  split
  · next p found =>
    rw [found] at ignored
    dsimp only at ignored
    rw [ignored]
    exact s.noteRssi_ruling p e
  · rfl

theorem Machine.State.handled_becomes (e : QueueEntry) : s.ruling.Becomes (s.handled e).ruling := by
  unfold State.handled
  split
  · exact State.becomes_evaluate (by rw [State.noteWheels_held, State.handOver_held, State.readEntry_held])
  · next quiet =>
    obtain ⟨ignored, stays⟩ := Bool.or_eq_false_iff.1 (Bool.eq_false_iff.2 quiet)
    refine State.becomes_of_ruling ?_
    rw [State.noteWheels_ruling, State.handOver_ruling _ stays, State.readEntry_ruling _ ignored]

theorem rulings_entryTaken : Rulings s (exec .entryTaken s) := by
  cases queue : s.queue with
  | nil =>
    show Rulings s (execEntryTaken s)
    unfold execEntryTaken
    rw [queue]
    exact gives_next (.refl _)
  | cons e rest =>
    rw [exec_entryTaken queue]
    have counted : (State.counted { s with queue := rest } e).ruling = s.ruling := by
      unfold State.counted
      split
      · exact State.resetCounts_ruling { s with queue := rest }
      · rfl
    refine gives_next ?_
    rw [← counted]
    exact State.handled_becomes _ e

theorem rulings_silenceExpiry (a : Fin 10) (k : Fin 4) : Rulings s (exec (.silenceExpiry a k) s) := by
  show Rulings s (execSilenceExpiry a k s)
  unfold execSilenceExpiry
  split
  · exact gives_next (State.becomes_evaluate (by rw [State.noteWheels_held, State.expireAt_held]))
  · exact gives_next (.refl _)

theorem rulings_loadCompletion : Rulings s (exec .loadCompletion s) := by
  show Rulings s (execLoadCompletion s)
  unfold execLoadCompletion
  split
  · refine gives_next ?_
    have started : s.loaded.startRecords.held = s.held := by
      rw [s.loaded_eq]
      rfl
    rw [State.completeLoad_eq, State.setFlagBoth_ruling _ (by decide)]
    refine State.becomes_putPermit (congrArg Ruling.permit started :) (congrArg Ruling.flag started :) fun _ => .evaluated ?_
    rw [State.evaluatedPermit_eq, show s.loaded.startRecords.permit = s.permit from (congrArg Ruling.permit started :)]
    rfl
  · exact gives_next (.refl _)

/-! ### Vehicle items and configuration -/

theorem rulings_setVehicleLoad (q : PortId) (v : Half) : Rulings s (exec (.setVehicleLoad q v) s) := by
  refine gives_next (.transact ?_)
  split
  · exact s.becomes_refuse q _
  · next x _ =>
    refine .vehicleTaken (State.becomes_evaluate ?_) q 0 v
    rw [State.noteWheels_held, State.targetChange_held]
    exact s.putVehicle_held rfl

/-- The body item written, the permit unit not told yet. -/
def Machine.State.withBody (q : PortId) (x : BodyState) : State :=
  { s with vehicle := { s.vehicle with body := x, bodyWriter := some q } }

theorem Machine.State.writeBody_evaluated (q : PortId) (x : BodyState) (evaluated : s.permit.basis = .evaluated) :
    s.writeBody q x = (s.withBody q x).putPermit ({ s.ruling with body := x }.evaluation s.permit.verdict) := by
  have basis : (s.withBody q x).permit.basis = .evaluated := evaluated
  show (s.withBody q x).permitBodyWrite s.vehicle.body = _
  unfold State.permitBodyWrite
  rw [basis]
  exact State.evaluate_eq basis

theorem Machine.State.writeBody_starting (q : PortId) (x : BodyState) (starting : s.permit.basis = .starting) :
    s.writeBody q x = (s.withBody q x).putPermit
      { s.permit with latched := latchAtStart s.vehicle.body x s.permit.latched } := by
  have basis : (s.withBody q x).permit.basis = .starting := starting
  show (s.withBody q x).permitBodyWrite s.vehicle.body = _
  unfold State.permitBodyWrite
  rw [basis]
  rfl

theorem Machine.State.writeBody_becomes (q : PortId) (x : BodyState) : s.ruling.Becomes (s.writeBody q x).ruling := by
  cases basis : s.permit.basis with
  | evaluated =>
    rw [s.writeBody_evaluated q x basis]
    exact State.becomes_putPermit rfl rfl fun _ => .evaluated rfl
  | starting =>
    rw [s.writeBody_starting q x basis]
    exact State.becomes_putPermit rfl rfl fun _ => .latched basis rfl

theorem rulings_setVehicleBody (q : PortId) (v : Half) : Rulings s (exec (.setVehicleBody q v) s) := by
  refine gives_next (.transact ?_)
  split
  · exact s.becomes_refuse q _
  · exact .vehicleTaken (s.writeBody_becomes q _) q 1 v

theorem rulings_setVehicleTrailer (q : PortId) (v : Half) : Rulings s (exec (.setVehicleTrailer q v) s) := by
  refine gives_next (.transact ?_)
  split
  · exact s.becomes_refuse q _
  · refine .vehicleTaken (State.becomes_evaluate ?_) q 2 v
    dsimp only
    split
    · rw [State.noteWheels_held, State.attachTrailer_held]
      exact s.putVehicle_held rfl
    · rw [State.cancelTrailerSession_held, State.noteWheels_held, State.detachTrailer, State.detachAll_held]
      exact s.putVehicle_held rfl
    · exact s.putVehicle_held rfl

theorem rulings_setVehicleMotion (q : PortId) (v : Half) : Rulings s (exec (.setVehicleMotion q v) s) := by
  refine gives_next (.transact ?_)
  split
  · exact s.becomes_refuse q _
  · refine .vehicleTaken ?_ q 3 v
    exact s.takeExpiries_becomes (s.putVehicle_held rfl)

theorem rulings_setVehicleLiftedSet (q : PortId) (v : Half) : Rulings s (exec (.setVehicleLiftedSet q v) s) := by
  refine gives_next (.transact ?_)
  split
  · exact s.becomes_refuse q _
  · refine .vehicleTaken ?_ q 4 _
    unfold State.writeLifted
    dsimp only
    split
    · exact State.becomes_evaluate (s.putVehicle_held rfl)
    · exact s.takeExpiries_becomes (s.putVehicle_held rfl)

theorem rulings_setConfig (q : PortId) (i : Byte) (v : BitVec 32) : Rulings s (exec (.setConfig q i v) s) := by
  refine gives_next (.unlessLoading ?_)
  split
  · exact s.becomes_refuse q _
  · next item _ =>
    refine .answer ?_ q _ _
    have written : (State.setFlagBoth { s with config := s.config.write item v, generation := s.generation + 1 } .image).ruling
        = s.ruling :=
      State.setFlagBoth_ruling { s with config := s.config.write item v, generation := s.generation + 1 } (by decide)
    unfold State.writeConfig
    generalize State.setFlagBoth _ _ = u at written ⊢
    have expiries := s.takeExpiries_becomes (State.held_of_ruling written)
    cases item with
    | movingLimit => exact expiries
    | stoppedLimit => exact expiries
    | learnTimeout => exact State.becomes_of_ruling (u.expireTimer_ruling.trans written)
    | _ => exact State.becomes_of_ruling written

/-! ### Map edits, profiles and learning -/

theorem rulings_mapAssign (q : PortId) (g : Generation) (a k : Byte) (id : SensorId) :
    Rulings s (exec (.mapAssign q g a k id) s) := by
  refine gives_next (.unlessLoading ?_)
  split
  · exact s.becomes_refuse q _
  · split
    · exact s.becomes_refuse q _
    · refine .answer ?_ q _ _
      unfold State.assign
      split
      · exact s.editTaken_becomes rfl _
      · exact s.editTaken_becomes (s.freshAt_held _ _) _

theorem rulings_mapRemove (q : PortId) (g : Generation) (a k : Byte) : Rulings s (exec (.mapRemove q g a k) s) := by
  refine gives_next (.unlessLoading ?_)
  split
  · exact s.becomes_refuse q _
  · split
    · exact s.becomes_refuse q _
    · refine .answer ?_ q _ _
      unfold State.remove
      split
      · exact s.editTaken_becomes (s.emptyAll_held [_]) _
      · exact s.editTaken_becomes rfl _

theorem rulings_mapSetAxle (q : PortId) (g : Generation) (a pr un ki pf tc lc : Byte) :
    Rulings s (exec (.mapSetAxle q g a pr un ki pf tc lc) s) := by
  refine gives_next (.unlessLoading ?_)
  split
  · split
    · exact s.becomes_refuse q _
    · exact .answer (s.editTaken_becomes (s.setAxle_held _ _) _) q _ _
  · exact s.becomes_refuse q _

theorem rulings_mapMove (q : PortId) (g : Generation) (sa sk na ns da dk mode : Byte) :
    Rulings s (exec (.mapMove q g sa sk na ns da dk mode) s) := by
  refine gives_next (.unlessLoading ?_)
  split
  · exact s.becomes_refuse q _
  · split
    · exact s.becomes_refuse q _
    · exact .answer (s.editTaken_becomes (s.moved_held _) _) q _ _

theorem Machine.State.commitProfile_becomes (n : Fin 4) (copy : Profile) : s.ruling.Becomes (s.commitProfile n copy).ruling := by
  refine State.becomes_evaluate ?_
  rw [State.noteWheels_held, State.targetChange_held, State.setFlagBoth_held _ (by decide)]
  rfl

theorem rulings_profileWrite (q : PortId) (v : Half) : Rulings s (exec (.profileWrite q v) s) := by
  refine gives_next (.unlessLoading ?_)
  split
  · exact s.becomes_refuse q _
  · next g _ =>
    unfold State.writeStaged
    dsimp only
    split
    · exact .answer (State.becomes_of_ruling (s.setStaging_ruling q _)) q _ _
    · split
      · refine .answer ?_ q _ _
        rw [State.loadStaging, State.setStaging_ruling]
        exact s.commitProfile_becomes _ _
      · exact .answer (State.becomes_of_ruling (s.setStaging_ruling q _)) q _ _

theorem rulings_learnSkip (q : PortId) : Rulings s (exec (.learnSkip q) s) := by
  refine gives_next (.unlessLoading ?_)
  split
  · exact s.becomes_refuse q _
  · next l _ =>
    refine .answer ?_ q _ _
    split
    · exact State.becomes_evaluate (s.advance_held l none)
    · next more => exact State.becomes_of_ruling (s.advance_ruling (Bool.eq_false_iff.2 more) none)

theorem rulings_learnFinish (q : PortId) : Rulings s (exec (.learnFinish q) s) := by
  refine gives_next (.unlessLoading ?_)
  split
  · exact s.becomes_refuse q _
  · refine .answer (State.becomes_evaluate ?_) q _ _
    rw [State.held_of_ruling (State.endSession_ruling _ _), State.applyResult_held]

/-! ### Every command -/

theorem exec_restarts {c : Instr} (restarts : Claims.Restarts c) : exec c s = .next s.restart := by
  rcases restarts with rfl | rfl | rfl <;> rfl

theorem rulings_exec {c : Instr} (goesOn : ¬ Claims.Restarts c) : Rulings s (exec c s) := by
  by_cases unruled : c.unruled = true
  · exact rulings_unruled s unruled
  cases c with
  | powerUp => exact absurd (.inl rfl) goesOn
  | resetN => exact absurd (.inr (.inl rfl)) goesOn
  | powerLoss => exact absurd (.inr (.inr rfl)) goesOn
  | loadCompletion => exact rulings_loadCompletion s
  | entryTaken => exact rulings_entryTaken s
  | silenceExpiry a k => exact rulings_silenceExpiry s a k
  | setVehicleLoad q v => exact rulings_setVehicleLoad s q v
  | setVehicleBody q v => exact rulings_setVehicleBody s q v
  | setVehicleTrailer q v => exact rulings_setVehicleTrailer s q v
  | setVehicleMotion q v => exact rulings_setVehicleMotion s q v
  | setVehicleLiftedSet q v => exact rulings_setVehicleLiftedSet s q v
  | setConfig q i v => exact rulings_setConfig s q i v
  | mapAssign q g a k id => exact rulings_mapAssign s q g a k id
  | mapRemove q g a k => exact rulings_mapRemove s q g a k
  | mapSetAxle q g a pr un ki pf tc lc => exact rulings_mapSetAxle s q g a pr un ki pf tc lc
  | mapMove q g sa sk na ns da dk m => exact rulings_mapMove s q g sa sk na ns da dk m
  | profileWrite q v => exact rulings_profileWrite s q v
  | learnSkip q => exact rulings_learnSkip s q
  | learnFinish q => exact rulings_learnFinish s q
  | _ => exact absurd rfl unruled

end

end Sys2Proof

/-! ## The verdict along every step -/

namespace Sys2Proof
open Machine Safety

/-- One step: a reset puts the verdict record back, every other command makes of the ruling what an event can. -/
theorem ruling_step {s t : State} (gives : step s = .next t) :
    (t.permit = .reset ∧ t.vehicle.body = .down) ∨ s.ruling.Becomes t.ruling := by
  unfold step at gives
  split at gives
  · cases gives
    exact .inr (.refl _)
  · next c rest _ =>
    by_cases restarts : Claims.Restarts c
    · rw [exec_restarts _ restarts] at gives
      cases gives
      exact .inl ⟨rfl, rfl⟩
    · exact .inr (rulings_exec { s with pending := rest } restarts t gives)

/-! ### The table of R120 -/

theorem latchRule_latched (b : BodyState) (before raw : Verdict) :
    (latchRule b before raw).2 = true ↔ b ≠ .down ∧ (latchRule b before raw).1 = .withheld := by
  cases b <;> cases before <;> cases raw <;> decide

/-- Off its rest the body holds a WITHHELD verdict. -/
theorem latchRule_holds {b : BodyState} (off : b ≠ .down) (raw : Verdict) : latchRule b .withheld raw = (.withheld, true) := by
  cases b
  case down => exact absurd rfl off
  all_goals cases raw <;> rfl

/-- While the basis is STARTING the latch tells whether the body is off its rest. -/
theorem latchAtStart_iff {before : BodyState} {held : Bool} (law : held = true ↔ before ≠ .down) (after : BodyState) :
    latchAtStart before after held = true ↔ after ≠ .down := by
  unfold latchAtStart
  by_cases down : after = .down
  · simp [down]
  · by_cases rested : before = .down
    · simp [down, rested]
    · simp [down, rested, law]

theorem tipOkPin_iff (s : State) : s.tipOkPin = true ↔ s.permit.verdict = .granted := beq_iff_eq

theorem Ruling.Rules.holds {x y : Ruling} (h : x.Rules y)
    (law : x.permit.latched = true ↔ x.body ≠ .down ∧ x.permit.verdict = .withheld)
    (before : x.body ≠ .down) (after : y.body ≠ .down) (withheld : x.permit.verdict = .withheld) :
    y.permit.verdict = .withheld ∧ y.permit.latched = true := by
  have latched := law.2 ⟨before, withheld⟩
  cases h with
  | stays permit => rw [permit]; exact ⟨withheld, latched⟩
  | evaluated permit =>
    rw [permit, Ruling.evaluation, withheld, latchRule_holds after]
    exact ⟨rfl, rfl⟩
  | latched _ permit =>
    rw [permit, latchAtStart, if_neg after, if_neg before]
    exact ⟨withheld, latched⟩

/-- Settles O36: what a step can make of the verdict, by the table of R120 and by R122 while the basis is STARTING. -/
theorem withheldVerdictIsHeldByTheBody : Obligations.WithheldVerdictIsHeldByTheBody := by
  unfold Obligations.WithheldVerdictIsHeldByTheBody
  intro s t law gives before after withheld
  rcases ruling_step gives with ⟨_, down⟩ | becomes
  · exact absurd down after
  · obtain ⟨verdict, latched⟩ : t.permit.verdict = .withheld ∧ t.permit.latched = true :=
      becomes.rules.holds law.latched before after withheld
    refine ⟨verdict, latched, Bool.eq_false_iff.2 fun high => ?_⟩
    rw [(tipOkPin_iff t).1 high] at verdict
    cases verdict

/-- Settles O37: PERMIT as every command but a reset leaves it. -/
theorem permitFlagFollowsTheVerdict : Obligations.PermitFlagFollowsTheVerdict := by
  unfold Obligations.PermitFlagFollowsTheVerdict
  refine ⟨tipOkPin_iff, fun c s t gives goesOn => ?_⟩
  have becomes := rulings_exec s goesOn t gives
  exact ⟨becomes.sets, fun same q set => (becomes.spares q set).resolve_right same⟩

/-! ### The laws of the verdict record -/

theorem Ruling.evaluation_again (x : Ruling) (before : Verdict) :
    x.evaluation (x.evaluation before).verdict = x.evaluation before := by
  unfold Ruling.evaluation
  dsimp only
  rw [latchRule_idem]

theorem permitLaw_reset {t : State} (permit : t.permit = .reset) (down : t.vehicle.body = .down) : PermitLaw t where
  reasons := by rw [permit]; decide
  starting _ := by rw [permit]; exact ⟨rfl, rfl, rfl⟩
  latched := by rw [permit, down]; decide

theorem permitLaw_evaluated {t : State} {before : Verdict} (permit : t.permit = t.ruling.evaluation before) : PermitLaw t where
  reasons := by rw [permit]; exact List.length_take_le _ _
  starting starting := by rw [permit] at starting; cases starting
  latched := by rw [permit]; exact latchRule_latched _ _ _

theorem permitLaw_becomes {s t : State} (law : PermitLaw s) (becomes : s.ruling.Becomes t.ruling) : PermitLaw t := by
  cases becomes.rules with
  | stays permit body =>
    have permit : t.permit = s.permit := permit
    have body : t.vehicle.body = s.vehicle.body := body
    constructor <;> rw [permit]
    · exact law.reasons
    · exact law.starting
    · rw [body]
      exact law.latched
  | evaluated permit => exact permitLaw_evaluated permit
  | latched starting permit =>
    have permit : t.permit = { s.permit with latched := latchAtStart s.vehicle.body t.vehicle.body s.permit.latched } := permit
    have withheld := (law.starting starting).1
    constructor <;> rw [permit]
    · exact law.reasons
    · exact law.starting
    · have latched := law.latched
      simp only [withheld, and_true] at latched ⊢
      exact latchAtStart_iff latched _

theorem permitCurrent_becomes {s t : State} (current : PermitCurrent s) (becomes : s.ruling.Becomes t.ruling) :
    PermitCurrent t := by
  intro evaluated
  have evaluated : t.ruling.permit.basis = .evaluated := evaluated
  show t.ruling.permit = t.ruling.evaluation t.ruling.permit.verdict
  cases becomes.rules with
  | stays permit body reasons =>
    rw [permit] at evaluated ⊢
    have before : s.ruling.permit = s.ruling.evaluation s.ruling.permit.verdict := current evaluated
    have same (v : Verdict) : t.ruling.evaluation v = s.ruling.evaluation v := by
      rw [Ruling.evaluation, body, reasons evaluated]
      rfl
    rw [same, ← before]
  | evaluated permit => rw [permit, Ruling.evaluation_again]
  | latched starting permit =>
    rw [permit] at evaluated
    exact absurd (starting.symm.trans evaluated) nofun

/-- Settles O60: what a step can make of the verdict keeps the record lawful and current. -/
theorem stepKeepsThePermitCurrent : Obligations.StepKeepsThePermitCurrent := by
  unfold Obligations.StepKeepsThePermitCurrent
  intro s t law gives
  rcases ruling_step gives with ⟨permit, down⟩ | becomes
  · refine ⟨permitLaw_reset permit down, fun evaluated => ?_⟩
    rw [permit] at evaluated
    cases evaluated
  · exact ⟨permitLaw_becomes law.permit becomes, permitCurrent_becomes law.current becomes⟩

end Sys2Proof

/-! ## The reasons of a verdict, and what one evaluation writes -/

namespace Sys2Proof
open Machine Safety

/-! ### Considered axles and their causes (R115, R116) -/

theorem considered_iff (s : State) (a : Fin 10) : s.considered a = true ↔ Claims.Considered s a := by
  simp [State.considered, Claims.Considered, and_assoc]

theorem mem_causes (r : WheelRecord) (c : Cause) : c ∈ r.causes ↔ Claims.CauseHolds r c := by
  unfold WheelRecord.causes
  cases state : r.state <;> cases c <;> simp [Claims.CauseHolds, state]

/-- The place of a cause in the order of R116. -/
def causeRank : Cause → Nat
  | .noCriticalAxle => 0
  | .noSensor => 1
  | .notLive => 2
  | .lowAlarm => 3
  | .leak => 4
  | .imbalance => 5
  | .sideBalance => 6

theorem causes_ordered (r : WheelRecord) : r.causes.Pairwise fun c d => causeRank c < causeRank d := by
  unfold WheelRecord.causes
  generalize r.conditions.lowAlarm = low
  generalize r.conditions.leak = leak
  generalize r.conditions.imbalance = imbalance
  cases r.state <;> revert low leak imbalance <;> decide

/-! ### The side balance (R117) -/

section
variable (s : State) (a : Fin 10)

theorem sidesDiffer_iff : Claims.SidesDiffer s a ↔ ∃ l r, s.sideMeans a = some (l, r) ∧ (s.levelsOf a).side < |l - r| := by
  unfold Claims.SidesDiffer State.sideMeans
  simp only [liveAt_iff]
  cases (s.axle a).kind with
  | single =>
    cases (s.wheel ⟨a, 0⟩).livePressure <;> cases (s.wheel ⟨a, 3⟩).livePressure <;> simp
  | dual =>
    cases (s.wheel ⟨a, 0⟩).livePressure <;> cases (s.wheel ⟨a, 1⟩).livePressure <;> cases (s.wheel ⟨a, 2⟩).livePressure <;>
      cases (s.wheel ⟨a, 3⟩).livePressure <;> simp

theorem mem_sideReason (x : Reason) : x ∈ s.sideReason a ↔ x = ⟨some a, none, .sideBalance⟩ ∧ Claims.SidesDiffer s a := by
  rw [sidesDiffer_iff]
  unfold State.sideReason
  cases s.sideMeans a with
  | none => simp
  | some means =>
    obtain ⟨l, r⟩ := means
    by_cases differ : (s.levelsOf a).side < |l - r| <;> simp [differ]

theorem sideReason_ordered (R : Reason → Reason → Prop) : (s.sideReason a).Pairwise R := by
  unfold State.sideReason
  split
  · split
    · exact List.pairwise_singleton _ _
    · exact .nil
  · exact .nil

/-! ### The reasons of one axle (R118) -/

theorem mem_axleReasons (x : Reason) : x ∈ s.axleReasons a ↔
    (∃ k c, x = ⟨some a, some k, c⟩ ∧ Claims.ValidSlot (s.axle a) k ∧ Claims.CauseHolds (s.wheel ⟨a, k⟩) c)
    ∨ (x = ⟨some a, none, .sideBalance⟩ ∧ Claims.SidesDiffer s a) := by
  unfold State.axleReasons State.validSlots
  rw [List.mem_append, mem_sideReason]
  refine or_congr_left ?_
  simp only [List.mem_flatMap, List.mem_filter, mem_axlePositions_iff, List.mem_map, mem_causes, State.validPos, validSlot_iff]
  constructor
  · rintro ⟨⟨_, k⟩, ⟨rfl, valid⟩, c, holds, rfl⟩
    exact ⟨k, c, rfl, valid, holds⟩
  · rintro ⟨k, c, rfl, valid, holds⟩
    exact ⟨⟨a, k⟩, ⟨rfl, valid⟩, c, holds, rfl⟩

theorem place_slot (k : Fin 4) (c : Cause) :
    Claims.place ⟨some a, some k, c⟩ = 100 * a.val + 10 * k.val + causeRank c := by cases c <;> rfl

theorem place_axle : Claims.place ⟨some a, none, .sideBalance⟩ = 100 * a.val + 46 := rfl

theorem causeRank_lt (c : Cause) : causeRank c < 7 := by cases c <;> decide

theorem place_of_mem_axleReasons {x : Reason} (h : x ∈ s.axleReasons a) :
    100 * a.val ≤ Claims.place x ∧ Claims.place x < 100 * a.val + 100 := by
  rcases (mem_axleReasons s a x).1 h with ⟨k, c, rfl, _⟩ | ⟨rfl, _⟩
  · have rank := causeRank_lt c
    rw [place_slot]
    omega
  · rw [place_axle]
    omega

theorem validSlots_ordered : (s.validSlots a).Pairwise fun p q => p.slot < q.slot := by
  refine List.Pairwise.filter _ ?_
  unfold axlePositions
  rw [List.pairwise_map]
  exact List.pairwise_lt_finRange 4

theorem axleReasons_ordered : (s.axleReasons a).Pairwise fun x y => Claims.place x < Claims.place y := by
  have here {p : Pos} (mem : p ∈ s.validSlots a) : p.axle = a := (mem_axlePositions_iff p a).1 (List.mem_filter.1 mem).1
  unfold State.axleReasons
  rw [List.pairwise_append]
  refine ⟨List.pairwise_flatMap.2 ⟨fun p _ => ?_, ?_⟩, sideReason_ordered s a _, fun x mem y side => ?_⟩
  · rw [List.pairwise_map]
    refine (causes_ordered (s.wheel p)).imp fun before => ?_
    rw [place_slot, place_slot]
    omega
  · refine (validSlots_ordered s a).imp_of_mem fun {p q} memp memq before x memx y memy => ?_
    obtain ⟨c, _, rfl⟩ := List.mem_map.1 memx
    obtain ⟨d, _, rfl⟩ := List.mem_map.1 memy
    have rank := causeRank_lt c
    rw [place_slot, place_slot, here memp, here memq]
    omega
  · obtain ⟨p, memp, memx⟩ := List.mem_flatMap.1 mem
    obtain ⟨c, _, rfl⟩ := List.mem_map.1 memx
    obtain ⟨rfl, _⟩ := (mem_sideReason s a y).1 side
    have rank := causeRank_lt c
    rw [place_slot, place_axle, here memp]
    omega

end

/-! ### The whole list (R115, R118) -/

section
variable {s : State}

theorem fullReasons_none (nobody : ∀ a, ¬ Claims.Considered s a) : s.fullReasons = [⟨none, none, .noCriticalAxle⟩] := by
  have empty : (List.finRange 10).filter s.considered = [] :=
    List.filter_eq_nil_iff.2 fun a _ considered => nobody a ((considered_iff s a).1 considered)
  rw [State.fullReasons, empty]

theorem fullReasons_some (found : ∃ a, Claims.Considered s a) :
    s.fullReasons = ((List.finRange 10).filter s.considered).flatMap s.axleReasons := by
  obtain ⟨a, considered⟩ := found
  unfold State.fullReasons
  split
  · next nobody =>
    exact absurd ((considered_iff s a).2 considered) (List.filter_eq_nil_iff.1 nobody a (List.mem_finRange a))
  · rfl

theorem mem_fullReasons (found : ∃ a, Claims.Considered s a) (x : Reason) :
    x ∈ s.fullReasons ↔ ∃ a, Claims.Considered s a ∧ x ∈ s.axleReasons a := by
  simp only [fullReasons_some found, List.mem_flatMap, List.mem_filter, List.mem_finRange, true_and, considered_iff]

theorem fullReasons_ordered (s : State) : s.fullReasons.Pairwise fun x y => Claims.place x < Claims.place y := by
  by_cases found : ∃ a, Claims.Considered s a
  · rw [fullReasons_some found, List.pairwise_flatMap]
    refine ⟨fun a _ => axleReasons_ordered s a,
      ((List.pairwise_lt_finRange 10).filter _).imp fun {a b} before x memx y memy => ?_⟩
    have first := place_of_mem_axleReasons s a memx
    have second := place_of_mem_axleReasons s b memy
    omega
  · rw [fullReasons_none (not_exists.1 found)]
    exact List.pairwise_singleton _ _

/-- The entries of the list, told by their form. -/
theorem fullReasons_entries (found : ∃ a, Claims.Considered s a) :
    (∀ a k c, (⟨some a, some k, c⟩ : Reason) ∈ s.fullReasons ↔
      Claims.Considered s a ∧ Claims.ValidSlot (s.axle a) k ∧ Claims.CauseHolds (s.wheel ⟨a, k⟩) c)
    ∧ (∀ a c, (⟨some a, none, c⟩ : Reason) ∈ s.fullReasons ↔
      Claims.Considered s a ∧ c = .sideBalance ∧ Claims.SidesDiffer s a)
    ∧ ∀ k c, (⟨none, k, c⟩ : Reason) ∉ s.fullReasons := by
  refine ⟨fun a k c => ?_, fun a c => ?_, fun k c mem => ?_⟩
  · rw [mem_fullReasons found]
    simp only [mem_axleReasons, Reason.mk.injEq, Option.some.injEq, reduceCtorEq, false_and, and_false, or_false]
    constructor
    · rintro ⟨_, considered, _, _, ⟨rfl, rfl, rfl⟩, valid, holds⟩
      exact ⟨considered, valid, holds⟩
    · rintro ⟨considered, valid, holds⟩
      exact ⟨a, considered, k, c, ⟨rfl, rfl, rfl⟩, valid, holds⟩
  · rw [mem_fullReasons found]
    simp only [mem_axleReasons, Reason.mk.injEq, Option.some.injEq, reduceCtorEq, false_and, and_false, exists_false, false_or,
      true_and]
    constructor
    · rintro ⟨_, considered, ⟨rfl, rfl⟩, differ⟩
      exact ⟨considered, rfl, differ⟩
    · rintro ⟨considered, rfl, differ⟩
      exact ⟨a, considered, ⟨rfl, rfl⟩, differ⟩
  · obtain ⟨a, _, mem⟩ := (mem_fullReasons found _).1 mem
    rcases (mem_axleReasons s a _).1 mem with ⟨_, _, same, _⟩ | ⟨same, _⟩ <;> cases same

end

/-! ### What one evaluation writes (R118, R120) -/

/-- Off its rest the body lets a GRANTED verdict follow the raw one, and latches it when it withholds. -/
theorem latchRule_follows {b : BodyState} (off : b ≠ .down) (raw : Verdict) :
    latchRule b .granted raw = (raw, raw == .withheld) := by
  cases b
  case down => exact absurd rfl off
  all_goals cases raw <;> rfl

/-- The first eight reasons, the more marker, and verdict and latch by the table of R120. -/
theorem evaluation_writes (x : Ruling) (before : Verdict) :
    let raw : Verdict := if x.reasons = [] then .granted else .withheld
    let y := x.evaluation before
    y.basis = .evaluated ∧ y.reasons = x.reasons.take 8 ∧ (y.more = true ↔ 8 < x.reasons.length)
    ∧ (x.body = .down → y.verdict = raw ∧ y.latched = false)
    ∧ (x.body ≠ .down → before = .granted → y.verdict = raw ∧ (y.latched = true ↔ raw = .withheld))
    ∧ (x.body ≠ .down → before = .withheld → y.verdict = .withheld ∧ y.latched = true) := by
  intro raw y
  have rule : y = ⟨(latchRule x.body before raw).1, .evaluated, (latchRule x.body before raw).2, x.reasons.take 8,
      decide (8 < x.reasons.length)⟩ := by
    simp only [y, raw, Ruling.evaluation, List.isEmpty_iff]
  rw [rule]
  refine ⟨rfl, rfl, decide_eq_true_iff, fun down => ?_, fun off granted => ?_, fun off withheld => ?_⟩
  · rw [down]
    exact ⟨rfl, rfl⟩
  · rw [granted, latchRule_follows off]
    exact ⟨rfl, beq_iff_eq⟩
  · rw [withheld, latchRule_holds off]
    exact ⟨rfl, rfl⟩

/-- Settles O35: the entries of the list, their order, and the table of R120. -/
theorem reasonsFollowTheWheels : Obligations.ReasonsFollowTheWheels := by
  unfold Obligations.ReasonsFollowTheWheels
  intro s full
  refine ⟨fullReasons_none, fullReasons_entries, fullReasons_ordered s, fun starting => ?_, fun evaluated => ?_⟩
  · unfold State.evaluate
    rw [starting]
  · intro t raw
    have permit : t.permit = s.ruling.evaluation s.permit.verdict := by
      rw [State.evaluate_permit, if_pos evaluated]
      rfl
    rw [permit]
    exact ⟨(State.Judges.refl s).evaluate.judgedFrom, s.evaluate_wheels, s.evaluate_alerts, evaluation_writes _ _⟩

end Sys2Proof

/-! ## The body item -/

namespace Sys2Proof
open Machine Safety

/-- A body write leaves all but the verdict record and PERMIT (R120 to R122). -/
theorem Machine.State.writeBody_eq (s : State) (q : PortId) (x : BodyState) :
    ∃ p, s.writeBody q x = (s.withBody q x).putPermit p := by
  cases basis : s.permit.basis with
  | evaluated => exact ⟨_, s.writeBody_evaluated q x basis⟩
  | starting => exact ⟨_, s.writeBody_starting q x basis⟩

theorem Machine.State.writeBody_judges (s : State) (q : PortId) (x : BodyState) : (s.writeBody q x).Judges (s.withBody q x) := by
  obtain ⟨p, written⟩ := s.writeBody_eq q x
  rw [written]
  exact ⟨State.putPermit_rest _ p, State.putPermit_grown _ p⟩

/-- Settles O40: the latch alone while the basis is STARTING, else an evaluation under the body written. -/
theorem bodyWriteMovesTheLatch : Obligations.BodyWriteMovesTheLatch := by
  unfold Obligations.BodyWriteMovesTheLatch
  intro s q x takes value u raw
  have item : bodyOf value = some x := by cases x <;> rfl
  have taken : u = (s.withBody q x).vehicleTaken q 1 value := (itemTaken_eq _ q 1 value).symm
  have gives : exec (.setVehicleBody q value) s = .next ((s.writeBody q x).vehicleTaken q 1 value) := by
    refine (next_taken takes _).trans ?_
    rw [item]
  have permit : ((s.writeBody q x).vehicleTaken q 1 value).permit = (s.writeBody q x).permit :=
    congrArg Ruling.permit (State.vehicleTaken_ruling _ q 1 value)
  obtain ⟨_, written⟩ := s.writeBody_eq q x
  refine ⟨_, gives, ?_, ?_, ?_, fun r => State.flag_of_watch (exec_unwatched s rfl _ gives) r rfl, fun starting => ?_,
    fun evaluated => ?_⟩
  · rw [taken]
    exact ((s.writeBody_judges q x).vehicleTaken q 1 value).judgedFrom
  · rw [State.vehicleTaken_wheels, written, State.putPermit_wheels]
    rfl
  · rw [State.vehicleTaken_alerts, written, State.putPermit_alerts]
    rfl
  · rw [permit, s.writeBody_starting q x starting, State.putPermit_permit]
    rfl
  · rw [permit, s.writeBody_evaluated q x evaluated, State.putPermit_permit]
    exact evaluation_writes { s.ruling with body := x } _

end Sys2Proof

/-! ## A session that ends without a result -/

namespace Sys2Proof
open Machine Safety

theorem timerDue_iff (s : State) : s.timerDue = true ↔ Claims.TimerDue s := by
  unfold State.timerDue State.timerReached Claims.TimerDue elapsed
  cases s.learn.session <;> simp

/-- Settles O52: an abort ends the session that runs, and an expiry ends it when it is due. -/
theorem sessionEndsWithoutAResult : Obligations.SessionEndsWithoutAResult := by
  unfold Obligations.SessionEndsWithoutAResult
  refine ⟨fun s q takes => ⟨fun l => next_busy takes l _, fun l idle => ?_, fun l running => ?_⟩, fun s =>
    ⟨fun due => congrArg Host.Outcome.next (if_pos ((timerDue_iff s).2 due)),
      fun early => congrArg Host.Outcome.next (if_neg (mt (timerDue_iff s).1 early))⟩⟩
  · refine (next_loaded takes l _).trans ?_
    rw [idle]
    rfl
  · obtain ⟨session, running⟩ := Option.isSome_iff_exists.1 running
    refine (next_loaded takes l _).trans ?_
    rw [running]
    rfl

end Sys2Proof

/-! ## A result applied on a command -/

namespace Sys2Proof
open Machine Safety

/-! ### What LEARN_SKIP and LEARN_FINISH apply (R133, R134) -/

/-- KEEP applies nothing (R139). -/
theorem Machine.State.applyResult_keep (s : State) (staging : List (Pos × Option SensorId)) (p : Pos) :
    s.applyResult (staging ++ [(p, none)]) = s.applyResult staging := by
  have places : (staging ++ [(p, none)]).foldl State.placeStaged s = staging.foldl State.placeStaged s := by
    rw [List.foldl_append]
    rfl
  have names : ((staging ++ [(p, none)]).any fun e => e.2.isSome) = staging.any fun e => e.2.isSome := by simp
  unfold State.applyResult
  rw [places, names]

section
variable {s : State} {q : PortId} {l : Session} (takes : Claims.Takes s q) (loaded : s.loading = false)
include takes loaded

theorem exec_learnSkip_idle (idle : s.learn.session = none) : exec (.learnSkip q) s = .next (s.answer q .noSession []) := by
  refine (next_loaded takes loaded _).trans ?_
  rw [idle]
  rfl

theorem exec_learnFinish_idle (idle : s.learn.session = none) :
    exec (.learnFinish q) s = .next (s.answer q .noSession []) := by
  refine (next_loaded takes loaded _).trans ?_
  rw [idle]
  rfl

theorem exec_learnSkip_running (running : s.learn.session = some l) : exec (.learnSkip q) s
    = .next ((if l.atLast then (s.advance l none).evaluate else s.advance l none).answer q .ok
        [BitVec.ofNat 8 (l.cursor + 1)]) := by
  refine (next_loaded takes loaded _).trans ?_
  rw [running]

/-- A skip before the last position. -/
theorem exec_learnSkip_more (running : s.learn.session = some l) {p : Pos} (here : l.here = some p)
    (more : l.cursor + 1 < l.positions.length) : exec (.learnSkip q) s
    = .next ((State.setFlagBoth (s.putLearn { s.learn with session := some (l.staged p none s.uptime) }) .learn).answer q .ok
        [BitVec.ofNat 8 (l.cursor + 1)]) := by
  have early : l.atLast ≠ true := by simp [Session.atLast, more]
  rw [exec_learnSkip_running takes loaded running, if_neg early, State.advance_more s none here more]

/-- A skip at the last position. -/
theorem exec_learnSkip_last (running : s.learn.session = some l) {p : Pos} (here : l.here = some p)
    (last : l.cursor + 1 = l.positions.length) : exec (.learnSkip q) s
    = .next (((s.applyResult l.staging).endSession .completed).evaluate.answer q .ok
        [BitVec.ofNat 8 l.positions.length]) := by
  have ends : l.atLast = true := by simp [Session.atLast, last]
  rw [exec_learnSkip_running takes loaded running, if_pos ends, State.advance_last s none here last, State.applyResult_keep,
    last]

theorem exec_learnFinish_running (running : s.learn.session = some l) : exec (.learnFinish q) s
    = .next (((s.applyResult l.staging).endSession .finishedEarly).evaluate.answer q .ok
        [BitVec.ofNat 8 (l.staging.filter fun e => e.2.isSome).length]) := by
  refine (next_loaded takes loaded _).trans ?_
  rw [running]

end

/-! ### The result applied -/

/-- What a session has staged so far can be applied. -/
theorem Safety.SessionLaw.admits_staging {s : State} (h : SessionLaw s) {l : Session} (running : s.learn.session = some l) :
    s.Admits l.staging where
  places := h.canPlace running
  attached e he := by
    have listed : e.1 ∈ l.positions.take l.cursor := h.staged l running ▸ List.mem_map_of_mem he
    exact h.attached running (List.mem_of_mem_take listed)
  slots := by
    rw [h.staged l running]
    exact (h.nodup running).sublist (List.take_sublist _ _)
  ids := h.unique l running

/-- A session's result applied at the end of the session, with the reply of the command that ends it (R139, R140). -/
theorem Safety.Lawful.resultTaken {s : State} (lawful : Lawful s) {l : Session} (running : s.learn.session = some l)
    (o : LearnOutcome) (q : PortId) (bytes : List Byte) :
    let t := ((s.applyResult l.staging).endSession o).evaluate.answer q .ok bytes
    JudgedFrom t ((State.setFlagBoth (State.setFlagBoth
      { s with generation := s.generation + 1, slots := t.slots, learn := ⟨none, o⟩ } .image) .learn).answer q .ok bytes)
    ∧ Claims.ResultApplied s t l.staging := by
  intro t
  have judges : (s.applyResult l.staging).Judges _ := (State.Judges.refl s).applyResult l.staging
  have slots : t.slots = (s.applyResult l.staging).slots := by
    have ended := State.evaluate_rest ((s.applyResult l.staging).endSession o)
    exact (State.answer_slots _ q .ok bytes).trans (congrArg State.slots ended :)
  have wheels : t.wheels = (s.applyResult l.staging).wheels := by simp [t, State.endSession]
  have applies := State.placeAll_applies (Kept.of_lawful lawful) (lawful.session.admits_staging running)
  refine ⟨?_, applies.resultApplied ⟨rfl, rfl, rfl⟩ ⟨?_, ?_⟩ fun p id mem => ?_⟩
  · rw [slots]
    exact ((judges.endSession o).evaluate.answer q .ok bytes).judgedFrom
  · rw [slots, State.applyResult_slots]
  · rw [wheels, State.applyResult_wheels]
  · have placed := s.applyResult_flagged mem
    have ended : Claims.Flagged ((s.applyResult l.staging).endSession o) .wheel :=
      Claims.Flagged.setFlagBoth (s := (s.applyResult l.staging).putLearn ⟨none, o⟩) placed .learn
    exact ended.evaluate.answer q .ok bytes

/-- Settles O53: KEEP stages nothing to apply, so a last skip and a finish both apply what the session has staged. -/
theorem learnResultIsApplied : Obligations.LearnResultIsApplied := by
  unfold Obligations.LearnResultIsApplied
  intro s q takes
  refine ⟨fun l => ⟨next_busy takes l _, next_busy takes l _⟩,
    fun l idle => ⟨exec_learnSkip_idle takes l idle, exec_learnFinish_idle takes l idle⟩, fun l p lawful running here => ?_⟩
  have loaded : s.loading = false := lawful.session.loaded (Option.isSome_iff_exists.2 ⟨l, running⟩)
  exact ⟨fun more => exec_learnSkip_more takes loaded running here more,
    fun last => ⟨_, exec_learnSkip_last takes loaded running here last, lawful.resultTaken running .completed q _⟩,
    ⟨_, exec_learnFinish_running takes loaded running, lawful.resultTaken running .finishedEarly q _⟩⟩

end Sys2Proof

/-! ## A session started -/

namespace Sys2Proof
open Machine Safety

/-! ### The position list (R128) -/

/-- The order of a position list: axle ascending, then slot. -/
def Machine.Pos.Before (p q : Pos) : Prop := p.axle < q.axle ∨ (p.axle = q.axle ∧ p.slot < q.slot)

theorem Machine.Pos.Before.ne {p q : Pos} (h : p.Before q) : p ≠ q := by
  rintro rfl
  rcases h with axle | ⟨_, slot⟩
  · exact lt_irrefl _ axle
  · exact lt_irrefl _ slot

theorem Machine.Pos.Before.asymm {p q : Pos} (h : p.Before q) : ¬ q.Before p := by
  unfold Pos.Before at *
  omega

theorem allPos_ordered : allPos.Pairwise Pos.Before := by
  refine List.pairwise_flatMap.2 ⟨fun a _ => ?_, (List.pairwise_lt_finRange 10).imp fun {a b} before p memp q memq => ?_⟩
  · exact List.pairwise_map.2 ((List.pairwise_lt_finRange 4).imp fun before => .inr ⟨rfl, before⟩)
  · rw [mem_axlePositions_iff] at memp memq
    exact .inl (by rwa [memp, memq])

/-- The positions of a range are those of the session's list, in its order. -/
theorem Claims.PositionsOf.eq_positionList {s : State} {lo hi : Nat} {ps : List Pos} (h : Claims.PositionsOf s lo hi ps) :
    ps = s.positionList ⟨lo, hi⟩ := by
  obtain ⟨members, ordered⟩ := h
  have ordered : ps.Pairwise Pos.Before := ordered
  have sorted : (s.positionList ⟨lo, hi⟩).Pairwise Pos.Before := allPos_ordered.filter _
  have same (p : Pos) : p ∈ ps ↔ p ∈ s.positionList ⟨lo, hi⟩ := by
    rw [members, State.mem_positionList, State.validPos, validSlot_iff]
    simp [AxleRange.covers, and_assoc]
  have perm := (List.perm_ext_iff_of_nodup (ordered.imp Pos.Before.ne) (sorted.imp Pos.Before.ne)).2 same
  exact perm.eq_of_pairwise (fun _ _ _ _ before after => absurd after before.asymm) ordered sorted

/-- A present axle gives its two outer positions. -/
theorem Machine.State.two_le_length_positionList {s : State} {r : AxleRange} {a : Fin 10} (covers : r.covers a.val = true)
    (present : (s.axle a).present = true) : 2 ≤ (s.positionList r).length := by
  have outer (k : Fin 4) (side : k = 0 ∨ k = 3) : (⟨a, k⟩ : Pos) ∈ s.positionList r :=
    State.mem_positionList.2 ⟨covers, (validSlot_iff _ k).2 ⟨present, .inr side⟩⟩
  have both : [(⟨a, 0⟩ : Pos), ⟨a, 3⟩] ⊆ s.positionList r :=
    List.cons_subset.2 ⟨outer 0 (.inl rfl), List.cons_subset.2 ⟨outer 3 (.inr rfl), List.nil_subset _⟩⟩
  exact (List.subperm_of_subset (by simp) both).length_le

theorem Machine.State.length_positionList_le (s : State) (r : AxleRange) : (s.positionList r).length ≤ 40 :=
  List.length_filter_le _ allPos

/-! ### The checks of LEARN_START (R129) -/

theorem rangeFits_iff (lo hi : Nat) :
    (decide (lo ≤ hi) && decide (hi ≤ 9)) = true ↔ ¬ (9 < lo ∨ 9 < hi ∨ hi < lo) := by
  simp only [Bool.and_eq_true, decide_eq_true_eq]
  omega

/-- A test of the axles of a range, as the statements say it. -/
theorem anyCovered_iff (lo hi : Nat) (test : Fin 10 → Bool) :
    ((List.finRange 10).any fun a => (⟨lo, hi⟩ : AxleRange).covers a.val && test a) = true
      ↔ ∃ a : Fin 10, (lo ≤ a.val ∧ a.val ≤ hi) ∧ test a = true := by
  simp [List.any_eq_true, AxleRange.covers]

theorem rangePresent_iff (s : State) (lo hi : Nat) :
    ((List.finRange 10).any fun a => (⟨lo, hi⟩ : AxleRange).covers a.val && (s.axle a).present) = true
      ↔ ¬ ∀ a : Fin 10, lo ≤ a.val ∧ a.val ≤ hi → (s.axle a).present = false := by
  rw [anyCovered_iff]
  simp only [not_forall, exists_prop, Bool.not_eq_false]

theorem rangeProtected_iff (s : State) (lo hi : Nat) :
    ((List.finRange 10).any fun a => (⟨lo, hi⟩ : AxleRange).covers a.val && s.protectedAxle a.val) = true
      ↔ ∃ a : Fin 10, (lo ≤ a.val ∧ a.val ≤ hi) ∧ Claims.Protected s a.val := by
  simp only [anyCovered_iff, protectedAxle_iff]

theorem rangeHasTrailer_iff (s : State) (lo hi : Nat) :
    s.rangeHasTrailer ⟨lo, hi⟩ = true
      ↔ ∃ a : Fin 10, (lo ≤ a.val ∧ a.val ≤ hi) ∧ (s.axle a).present = true ∧ (s.axle a).unit = .trailer := by
  simp only [State.rangeHasTrailer, Bool.and_assoc, anyCovered_iff, Bool.and_eq_true, beq_iff_eq]

theorem trailerFits_iff (s : State) (lo hi : Nat) :
    (!s.rangeHasTrailer ⟨lo, hi⟩ || s.vehicle.trailer == .present) = true
      ↔ ¬ ((∃ a : Fin 10, (lo ≤ a.val ∧ a.val ≤ hi) ∧ (s.axle a).present = true ∧ (s.axle a).unit = .trailer)
        ∧ s.vehicle.trailer = .absent) := by
  rw [← rangeHasTrailer_iff]
  cases s.rangeHasTrailer ⟨lo, hi⟩ <;> cases s.vehicle.trailer <;> simp

/-- A check that a test fails. -/
theorem negated_iff {b : Bool} {P : Prop} (h : b = true ↔ P) : (!b) = true ↔ ¬ P := by
  rw [Bool.not_eq_true', Bool.eq_false_iff, ne_eq, h]

/-- A check list read as the conditions under which its checks fail. -/
theorem firstFailure_unless {ok : Bool} {st : Status} {rest : List (Bool × Status)} {P : Prop} [Decidable P]
    (h : ok = true ↔ ¬ P) : firstFailure ((ok, st) :: rest) = if P then some st else firstFailure rest := by
  rw [firstFailure_cons]
  by_cases fails : P
  · rw [if_neg (mt h.1 (not_not.2 fails)), if_pos fails]
  · rw [if_pos (h.2 fails), if_neg fails]

open Classical in
/-- The seven checks in the order of R129. -/
theorem learnStartFailure_eq (s : State) (expected : Generation) (first last : Byte) :
    s.learnStartFailure expected first last =
      if s.loading = true then some .busy
      else if s.learn.session.isSome = true then some .busy
      else if 9 < first.toNat ∨ 9 < last.toNat ∨ last.toNat < first.toNat then some .range
      else if expected ≠ s.generation then some .stale
      else if ∀ a : Fin 10, first.toNat ≤ a.val ∧ a.val ≤ last.toNat → (s.axle a).present = false then some .range
      else if ∃ a : Fin 10, (first.toNat ≤ a.val ∧ a.val ≤ last.toNat) ∧ Claims.Protected s a.val then some .underProtection
      else if (∃ a : Fin 10, (first.toNat ≤ a.val ∧ a.val ≤ last.toNat) ∧ (s.axle a).present = true
          ∧ (s.axle a).unit = .trailer) ∧ s.vehicle.trailer = .absent then some .noTrailer
      else none := by
  have loaded : (!s.loading) = true ↔ ¬ s.loading = true := negated_iff Iff.rfl
  have idle : s.learn.session.isNone = true ↔ ¬ s.learn.session.isSome = true := by simp
  have current : (expected == s.generation) = true ↔ ¬ expected ≠ s.generation := by simp
  have unguarded := negated_iff (rangeProtected_iff s first.toNat last.toNat)
  unfold State.learnStartFailure
  dsimp only
  rw [firstFailure_unless loaded, firstFailure_unless idle, firstFailure_unless (rangeFits_iff _ _),
    firstFailure_unless current, firstFailure_unless (rangePresent_iff s _ _), firstFailure_unless unguarded,
    firstFailure_unless (trailerFits_iff s _ _), firstFailure_nil]

section
variable {s : State} {q : PortId} {expected : Generation} {first last : Byte} (takes : Claims.Takes s q)
include takes

theorem exec_learnStart_refused {st : Status} (fails : s.learnStartFailure expected first last = some st) :
    exec (.learnStart q expected first last) s = .next (s.answer q st []) := by
  refine (next_taken takes _).trans ?_
  rw [fails]
  rfl

theorem exec_learnStart_taken (passes : s.learnStartFailure expected first last = none) :
    exec (.learnStart q expected first last) s = .next ((s.startSession ⟨first.toNat, last.toNat⟩).answer q .ok
      [BitVec.ofNat 8 (s.positionList ⟨first.toNat, last.toNat⟩).length]) := by
  refine (next_taken takes _).trans ?_
  rw [passes]

end

/-- Settles O50: the first check that fails gives the reply, and the list of the session is the positions of its range. -/
theorem learnStartOpensASession : Obligations.LearnStartOpensASession := by
  unfold Obligations.LearnStartOpensASession
  intro s q expected first last takes
  dsimp only
  have checks := learnStartFailure_eq s expected first last
  refine ⟨fun loading => ?_, fun loaded busy => ?_, fun loaded idle => ?_⟩
  · exact exec_learnStart_refused takes (checks.trans (if_pos loading))
  all_goals rw [if_neg (Bool.eq_false_iff.1 loaded)] at checks
  · exact exec_learnStart_refused takes (checks.trans (if_pos busy))
  rw [if_neg (by simp [idle])] at checks
  refine ⟨fun unfit => ?_, fun fit stale => ?_, fun fit current nobody => ?_, fun fit current manned guarded => ?_,
    fun fit current manned free uncoupled => ?_, fun ps fit current manned free coupled positions => ?_⟩
  · exact exec_learnStart_refused takes (checks.trans (if_pos unfit))
  all_goals rw [if_neg fit] at checks
  · exact exec_learnStart_refused takes (checks.trans (if_pos stale))
  all_goals rw [if_neg (not_not.2 current)] at checks
  · exact exec_learnStart_refused takes (checks.trans (if_pos nobody))
  all_goals rw [if_neg manned] at checks
  · exact exec_learnStart_refused takes (checks.trans (if_pos guarded))
  all_goals rw [if_neg free] at checks
  · exact exec_learnStart_refused takes (checks.trans (if_pos uncoupled))
  rw [if_neg coupled] at checks
  obtain rfl := positions.eq_positionList
  obtain ⟨a, _, covered⟩ := List.any_eq_true.1 ((rangePresent_iff s first.toNat last.toNat).2 manned)
  obtain ⟨covers, present⟩ := Bool.and_eq_true_iff.1 covered
  exact ⟨State.two_le_length_positionList covers present, s.length_positionList_le _, exec_learnStart_taken takes checks⟩

end Sys2Proof

/-! ## The vehicle items' own values, and the time base -/

namespace Sys2Proof
open Machine Safety

/-- Settles O5: the tick by definition, an interval as the difference of two words. -/
theorem uptimeTickAddsOneTenth : Obligations.UptimeTickAddsOneTenth := by
  unfold Obligations.UptimeTickAddsOneTenth
  refine ⟨fun s => rfl, rfl, fun later earlier => ?_⟩
  rw [elapsed, BitVec.toNat_sub, Nat.add_comm]

/-! ### Values that name nothing (R145, R187) -/

section
variable {v : Half}

theorem loadOf_eq_none (h : 1 < v.toNat) : loadOf v = none := by
  obtain ⟨n, hn⟩ := Nat.exists_eq_add_of_le' h
  rw [loadOf, hn]
  rfl

theorem bodyOf_eq_none (h : 3 < v.toNat) : bodyOf v = none := by
  obtain ⟨n, hn⟩ := Nat.exists_eq_add_of_le' h
  rw [bodyOf, hn]
  rfl

theorem trailerOf_eq_none (h : 1 < v.toNat) : trailerOf v = none := by
  obtain ⟨n, hn⟩ := Nat.exists_eq_add_of_le' h
  rw [trailerOf, hn]
  rfl

theorem motionOf_eq_none (h : 1 < v.toNat) : motionOf v = none := by
  obtain ⟨n, hn⟩ := Nat.exists_eq_add_of_le' h
  rw [motionOf, hn]
  rfl

theorem axleSetOf_eq_none (h : 1023 < v.toNat) : axleSetOf v = none := if_neg (Nat.not_lt.2 h)

theorem clampAmbient_eq : clampAmbient v = Claims.nearest 500 1100 (v.toNat : Int) := clampInt_eq_nearest (by decide) _

end

/-- Settles O43: a value that names nothing is refused, and the ambient is the nearest of its range. -/
theorem vehicleValuesAreJudged : Obligations.VehicleValuesAreJudged := by
  unfold Obligations.VehicleValuesAreJudged
  intro s q value takes
  refine ⟨fun beyond => ?_, fun beyond => ?_, fun beyond => ?_, fun beyond => ?_, fun beyond => ?_, ?_⟩
  · refine (next_taken takes _).trans ?_
    rw [loadOf_eq_none beyond]
    rfl
  · refine (next_taken takes _).trans ?_
    rw [bodyOf_eq_none beyond]
    rfl
  · refine (next_taken takes _).trans ?_
    rw [trailerOf_eq_none beyond]
    rfl
  · refine (next_taken takes _).trans ?_
    rw [motionOf_eq_none beyond]
    rfl
  · refine (next_taken takes _).trans ?_
    rw [axleSetOf_eq_none beyond]
    rfl
  · refine (next_taken takes _).trans ?_
    rw [itemTaken_eq, clampAmbient_eq]
    rfl

end Sys2Proof

/-! ## A configuration write -/

namespace Sys2Proof
open Machine Safety

/-! ### The items (R151, R152) -/

theorem configItemOf_eq_none {n : Nat} (h : 7 < n) : configItemOf n = none := by
  obtain ⟨k, rfl⟩ := Nat.exists_eq_add_of_le' h
  rfl

theorem configItemOf_isSome {n : Nat} (h : n ≤ 7) : (configItemOf n).isSome = true := by
  interval_cases n <;> rfl

/-- The configuration and the value that a write leaves are those the statements name. -/
theorem configured_eq (c : ConfigItems) {n : Nat} {i : ConfigItem} (h : configItemOf n = some i) (v : BitVec 32) :
    Claims.configured c n v = (c.write i v, (c.write i v).value i) := by
  unfold configItemOf at h
  split at h <;> cases h
  all_goals simp (disch := decide) only [Claims.configured, ConfigItems.write, ConfigItems.value, clampInt_eq_nearest]

/-! ### The write and its effects (R152, R153) -/

/-- A configuration item written, its effects not yet taken. -/
def Machine.State.withConfig (s : State) (i : ConfigItem) (v : BitVec 32) : State :=
  State.setFlagBoth { s with config := s.config.write i v, generation := s.generation + 1 } .image

theorem Machine.State.writeConfig_eq (s : State) (i : ConfigItem) (v : BitVec 32) :
    s.writeConfig i v = (s.withConfig i v).configEffects i := rfl

/-- Items 2 to 7 but the learn timeout have no effect in the event of their write. -/
theorem Machine.State.configEffects_quiet (s : State) {n : Nat} {i : ConfigItem} (h : configItemOf n = some i) (late : 2 ≤ n)
    (other : n ≠ 6) : s.configEffects i = s := by
  unfold configItemOf at h
  split at h <;> cases h
  case h_1 | h_2 => omega
  case h_7 => exact absurd rfl other
  all_goals rfl

/-- SET_CONFIG outside the load, of an item that its code names. -/
theorem exec_setConfig {s : State} {q : PortId} (takes : Claims.Takes s q) (loaded : s.loading = false) {item : Byte}
    {i : ConfigItem} (named : configItemOf item.toNat = some i) (v : BitVec 32) :
    exec (.setConfig q item v) s = .next (((s.withConfig i v).configEffects i).answer q .ok
      (item :: Claims.four (Claims.configured s.config item.toNat v).2)) := by
  refine (next_loaded takes loaded _).trans ?_
  rw [named, configured_eq s.config named, ← bytes4_eq]
  rfl

/-- The expiries of an event do not read the reply slot. -/
theorem Claims.expiriesTaken_answer (u t : State) (q : PortId) (st : Status) (bs : List Byte) :
    Claims.ExpiriesTaken (u.answer q st bs) t ↔ Claims.ExpiriesTaken u t := by
  cases q <;> exact Iff.rfl

/-- A reply leaves the records and the flags that are set. -/
theorem Claims.ExpiriesTaken.answer {u t : State} (h : Claims.ExpiriesTaken u t) (q : PortId) (st : Status) (bs : List Byte) :
    Claims.ExpiriesTaken u (t.answer q st bs) := by
  obtain ⟨due, idle, cleared, kept⟩ := h
  unfold Claims.ExpiriesTaken State.active
  simp only [State.answer_wheel]
  exact ⟨fun p h => ⟨(due p h).1.answer q st bs, (due p h).2⟩, idle, cleared, kept⟩

theorem Machine.State.takeExpiries_answer (s : State) (q : PortId) (st : Status) (bs : List Byte) :
    JudgedFrom (s.takeExpiries.answer q st bs) (s.answer q st bs)
      ∧ Claims.ExpiriesTaken (s.answer q st bs) (s.takeExpiries.answer q st bs) :=
  ⟨(s.takeExpiries_judges.answer q st bs).judgedFrom,
    (Claims.expiriesTaken_answer s _ q st bs).2 ((expiriesTaken_takeExpiries s).answer q st bs)⟩

theorem Claims.timerDue_answer (s : State) (q : PortId) (st : Status) (bs : List Byte) :
    Claims.TimerDue (s.answer q st bs) ↔ Claims.TimerDue s := by
  cases q <;> exact Iff.rfl

theorem endSession_answer (s : State) (o : LearnOutcome) (q : PortId) (st : Status) (bs : List Byte) :
    (s.endSession o).answer q st bs = Claims.sessionEnded (s.answer q st bs) o := by
  cases q <;> rfl

theorem Machine.State.expireTimer_answer (s : State) (q : PortId) (st : Status) (bs : List Byte) :
    (Claims.TimerDue (s.answer q st bs) →
        s.expireTimer.answer q st bs = Claims.sessionEnded (s.answer q st bs) .timedOut)
    ∧ (¬ Claims.TimerDue (s.answer q st bs) → s.expireTimer.answer q st bs = s.answer q st bs) := by
  rw [Claims.timerDue_answer, ← timerDue_iff, State.expireTimer]
  refine ⟨fun due => ?_, fun early => ?_⟩
  · rw [if_pos due, endSession_answer]
  · rw [if_neg early]

/-- Settles O44: the item as its code names it, then the effects of R153. -/
theorem configWriteTakesTheClampedValue : Obligations.ConfigWriteTakesTheClampedValue := by
  unfold Obligations.ConfigWriteTakesTheClampedValue
  intro s q item value takes
  refine ⟨fun loading => next_busy takes loading _, fun loaded beyond => ?_, fun loaded small => ?_⟩
  · refine (next_loaded takes loaded _).trans ?_
    rw [configItemOf_eq_none beyond]
    rfl
  · intro out u
    obtain ⟨i, named⟩ := Option.isSome_iff_exists.1 (configItemOf_isSome small)
    have gives := exec_setConfig takes loaded named value
    have written : u = (s.withConfig i value).answer q .ok (item :: Claims.four out.2) := by
      show State.answer (State.setFlagBoth { s with config := out.1, generation := s.generation + 1 } .image) q .ok _ = _
      rw [show out.1 = s.config.write i value from congrArg Prod.fst (configured_eq s.config named value)]
      rfl
    rw [written, gives]
    refine ⟨fun limit => ?_, fun timeout => ?_, fun timeout => ?_, fun late other => ?_⟩
    · have silence : (s.withConfig i value).configEffects i = (s.withConfig i value).takeExpiries := by
        rcases limit with h | h <;> (rw [h] at named; cases named; rfl)
      rw [silence]
      exact ⟨_, rfl, State.takeExpiries_answer _ q _ _⟩
    · rw [timeout] at named
      cases named
      exact fun due => congrArg _ ((State.expireTimer_answer _ q _ _).1 due)
    · rw [timeout] at named
      cases named
      exact fun early => congrArg _ ((State.expireTimer_answer _ q _ _).2 early)
    · rw [State.configEffects_quiet _ named late other]

end Sys2Proof

/-! ## The supply watch -/

namespace Sys2Proof
open Machine Safety

theorem clampSample_eq (level : Int) : clampSample level = (Claims.nearest 0 400 level).toNat := by
  rw [clampSample, clampInt_eq_nearest (by decide)]

/-- A sample kept, with the supply state and recovery count that it leaves (R154). -/
def Machine.State.sampled (s : State) (v : Nat) (x : SupplyState) (n : Fin 2) : State :=
  { s with supply := ⟨x, n, some v⟩ }

/-! ### The moments of sampling -/

section
variable {s : State}

theorem exec_vsenseSample_off (off : s.uptime.toNat % 5 ≠ 0) (level : Int) : exec (.vsenseSample level) s = .next s := by
  refine if_neg ?_
  simp [State.sampleMoment, off]

theorem exec_vsenseSample_judged (moment : s.uptime.toNat % 5 = 0) (later : s.uptime ≠ 0) (level : Int) :
    let v := (Claims.nearest 0 400 level).toNat
    exec (.vsenseSample level) s = .next ((s.sampled v s.supply.state s.supply.recovery).judgeSample v) := by
  dsimp only
  rw [← clampSample_eq]
  refine if_pos ?_
  rw [State.sampleMoment, moment, bne_iff_ne.2 later]
  rfl

end

/-! ### What the change to NORMAL moves (R95, R137, R162) -/

theorem Machine.WheelState.expires_iff (x : WheelState) : x.expires = true ↔ x = .awaiting ∨ x = .live := by
  cases x <;> decide

/-- A record that can expire counts its silence from an uptime on; any other is left (R95). -/
def Machine.WheelRecord.silenceFrom (r : WheelRecord) (now : Uptime) : WheelRecord :=
  if r.state = .awaiting ∨ r.state = .live then { r with silenceRef := some now } else r

theorem Machine.State.moveSilenceRefs_eq (s : State) :
    s.moveSilenceRefs = { s with wheels := s.wheels.map fun r => r.silenceFrom s.uptime } := by
  have wheels : s.moveSilenceRefs.wheels = s.wheels.map fun r => r.silenceFrom s.uptime := by
    refine Vector.ext fun i hi => ?_
    rw [State.moveSilenceRefs, tabulate_getElem, Vector.getElem_map]
    exact if_congr (WheelState.expires_iff _) rfl rfl
  rw [← wheels]
  rfl

theorem Machine.State.moveTimerStart_eq (s : State) :
    s.moveTimerStart = { s with learn := { s.learn with
      session := s.learn.session.map fun l => { l with timerStart := s.uptime } } } := by
  unfold State.moveTimerStart
  split
  · next running => rw [running]; rfl
  · next idle => rw [idle, Option.map_none, ← idle]

theorem Machine.State.beginPendingWrite_eq (s : State) :
    s.beginPendingWrite = { s with store := match s.store.state with
      | .pending => { s.store with state := .writing s.workingImage }
      | _ => s.store } := by
  unfold State.beginPendingWrite
  cases s.store.state <;> rfl

/-- The state in which a change of supply to NORMAL leaves what it moves, its flag not yet set. -/
def Machine.State.wakened (s : State) : State :=
  { s with
    wheels := s.wheels.map fun r => r.silenceFrom s.uptime
    learn := { s.learn with session := s.learn.session.map fun l => { l with timerStart := s.uptime } }
    store := match s.store.state with
      | .pending => { s.store with state := .writing s.workingImage }
      | _ => s.store }

theorem Machine.State.wakened_eq (s : State) : s.moveSilenceRefs.moveTimerStart.beginPendingWrite = s.wakened := by
  rw [State.beginPendingWrite_eq, State.moveTimerStart_eq, State.moveSilenceRefs_eq]
  rfl

/-! ### The table of R154 -/

section
variable {s : State} {v : Nat}

theorem judgeSample_stays (n : Fin 2) (enough : s.config.supplyThreshold ≤ (v : Int)) :
    (s.sampled v .normal n).judgeSample v = s.sampled v .normal n := if_neg enough.not_gt

theorem judgeSample_drops (n : Fin 2) (short : (v : Int) < s.config.supplyThreshold) :
    (s.sampled v .normal n).judgeSample v = (s.sampled v .low 0).setFlagBoth .supply := if_pos short

theorem judgeSample_restarts (n : Fin 2) (short : (v : Int) < s.config.supplyThreshold + 15) :
    (s.sampled v .low n).judgeSample v = s.sampled v .low 0 := if_neg short.not_ge

theorem judgeSample_counts (enough : s.config.supplyThreshold + 15 ≤ (v : Int)) :
    (s.sampled v .low 0).judgeSample v = s.sampled v .low 1 := if_pos enough

theorem judgeSample_recovers (enough : s.config.supplyThreshold + 15 ≤ (v : Int)) :
    (s.sampled v .low 1).judgeSample v = (s.sampled v .normal 0).wakened.setFlagBoth .supply := by
  rw [← State.wakened_eq]
  exact if_pos enough

end

/-- Settles O34: no moment, no sample; at a moment the rows of R154's table. -/
theorem supplySampleIsJudged : Obligations.SupplySampleIsJudged := by
  unfold Obligations.SupplySampleIsJudged
  intro s level v th sampled
  refine ⟨fun off => exec_vsenseSample_off off level, fun moment later => ?_⟩
  rw [exec_vsenseSample_judged moment later]
  refine ⟨fun normal enough => ?_, fun normal short => ?_, fun low short => ?_, fun low enough first => ?_,
    fun low enough second => ?_⟩
  · rw [normal]
    exact congrArg _ (judgeSample_stays _ enough)
  · rw [normal]
    exact congrArg _ (judgeSample_drops _ short)
  · rw [low]
    exact congrArg _ (judgeSample_restarts _ short)
  · rw [low, first]
    exact congrArg _ (judgeSample_counts enough)
  · rw [low, second]
    exact congrArg _ (judgeSample_recovers enough)

end Sys2Proof

/-! ## Transactions that bring no command of the table -/

namespace Sys2Proof
open Machine Safety

/-! ### The bytes of a transaction (R167, R168) -/

theorem bytesOfBits_bits (bytes : List Byte) : bytesOfBits (Claims.bits bytes) = bytes := by
  induction bytes with
  | nil => rfl
  | cons b rest ih =>
    have bits : Claims.bits [b] = msbBits b := by rw [bits_eq, List.flatMap_singleton]
    show BitVec.ofNat 8 (bitsToNat (Claims.bits [b])) :: bytesOfBits (Claims.bits rest) = b :: rest
    rw [bits, bitsToNat_msbBits, BitVec.ofNat_toNat, BitVec.setWidth_eq, ih]

theorem length_claimsBits (bytes : List Byte) : (Claims.bits bytes).length = 8 * bytes.length := by
  rw [bits_eq, List.length_flatMap]
  simp [length_msbBits, Nat.mul_comm]

/-- Every byte takes eight bits. -/
theorem length_bytesOfBits (bits : List Bool) : 8 * (bytesOfBits bits).length ≤ bits.length := by
  induction bits using bytesOfBits.induct with
  | case1 b7 b6 b5 b4 b3 b2 b1 b0 rest ih =>
    simp only [bytesOfBits, List.length_cons]
    omega
  | case2 bits short =>
    rw [bytesOfBits.eq_2 _ short]
    exact Nat.zero_le _

/-- Whole bytes, at least one of them, are judged byte by byte. -/
theorem judgeFrame_bits (q : PortId) {bytes : List Byte} (some : bytes ≠ []) :
    judgeFrame q (Claims.bits bytes) = judgeBytes q bytes := by
  have clocked : 8 * bytes.length ≠ 0 := by simpa using some
  rw [judgeFrame, length_claimsBits, if_neg clocked, if_pos (Nat.mul_mod_right 8 _), bytesOfBits_bits]

/-- Bits that are not whole bytes, or fewer than two bytes, are no frame (R168). -/
theorem judgeFrame_malformed (q : PortId) {bits : List Bool} (some : bits ≠ [])
    (short : bits.length % 8 ≠ 0 ∨ bits.length < 16) : judgeFrame q bits = .malformed := by
  have clocked : bits.length ≠ 0 := by simpa using some
  rw [judgeFrame, if_neg clocked]
  split
  · next whole =>
    have few : (bytesOfBits bits).length < 2 := by
      have := length_bytesOfBits bits
      omega
    unfold judgeBytes
    split
    · next code n rest spelt =>
      rw [spelt] at few
      exact absurd few (by simp)
    · rfl
  · rfl

/-! ### A code, a length and parameters (R168, R171) -/

section
variable (q : PortId) {code n : Byte} {rest : List Byte}

theorem judgeBytes_short (h : rest.length < n.toNat) : judgeBytes q (code :: n :: rest) = .malformed := if_pos h

theorem judgeBytes_unknown (whole : n.toNat ≤ rest.length) (h : 0x1C < code.toNat) :
    judgeBytes q (code :: n :: rest) = .unknownCode := by
  have none : paramLengths[code.toNat]? = none := List.getElem?_eq_none h
  rw [judgeBytes, if_neg whole.not_gt, none]

theorem judgeBytes_wrongLength (whole : n.toNat ≤ rest.length) (known : code.toNat ≤ 0x1C)
    (other : some n.toNat ≠ paramLengths[code.toNat]?) : judgeBytes q (code :: n :: rest) = .wrongLength := by
  obtain ⟨k, hk⟩ : ∃ k, paramLengths[code.toNat]? = some k :=
    ⟨_, List.getElem?_eq_getElem (show code.toNat < paramLengths.length from Nat.lt_succ_of_le known)⟩
  rw [judgeBytes, if_neg whole.not_gt, hk]
  exact if_neg fun same => other (by rw [hk, same])

/-- A frame with the parameters of its code is what the code and they spell; bytes behind it are ignored. -/
theorem judgeBytes_known {ps : List Byte} (known : paramLengths[code.toNat]? = some ps.length) (beyond : List Byte) :
    judgeBytes q (code :: byte ps.length :: ps ++ beyond) = commandOf q code.toNat ps := by
  have bounded : ∀ k ∈ paramLengths, k < 256 := by decide
  have length : (byte ps.length).toNat = ps.length :=
    (BitVec.toNat_ofNat _ 8).trans (Nat.mod_eq_of_lt (bounded _ (List.mem_of_getElem? known)))
  have whole : ¬ (ps ++ beyond).length < (byte ps.length).toNat := by
    rw [length, List.length_append]
    omega
  show judgeBytes q (code :: byte ps.length :: (ps ++ beyond)) = _
  rw [judgeBytes, if_neg whole, known]
  dsimp only
  rw [if_pos length, List.take_left' rfl]

end

/-! ### The frames of the command code table (R171, R178, R187) -/

theorem half_bytes2 (x : Half) : half (x.extractLsb' 8 8) (x.extractLsb' 0 8) = x := by
  rw [half, BitVec.extractLsb'_append_extractLsb'_eq_extractLsb' (show 8 = 0 + 8 from rfl)]
  exact BitVec.extractLsb'_eq_self

theorem word4_bytes4 (x : BitVec 32) : word4 ((x.extractLsb' 16 16).extractLsb' 8 8) ((x.extractLsb' 16 16).extractLsb' 0 8)
    ((x.extractLsb' 0 16).extractLsb' 8 8) ((x.extractLsb' 0 16).extractLsb' 0 8) = x := by
  rw [word4, half_bytes2, half_bytes2, BitVec.extractLsb'_append_extractLsb'_eq_extractLsb' (show 16 = 0 + 16 from rfl)]
  exact BitVec.extractLsb'_eq_self

theorem judgeBytes_framed {p q : PortId} {code : Byte} {ps frame beyond : List Byte} {c d : Instr}
    (framed : frameOf p code ps = some (q, frame)) (known : paramLengths[code.toNat]? = some ps.length)
    (means : commandOf p code.toNat ps = .command d) (same : d = c) : judgeBytes q (frame ++ beyond) = .command c := by
  cases framed
  cases same
  exact (judgeBytes_known p known beyond).trans means

/-- The frame that a host sends for a command is judged to be that command; each parameter is read back from its bytes. -/
theorem judgeBytes_encodeFrame {c : Instr} {q : PortId} {frame : List Byte} (h : encodeFrame c = some (q, frame))
    (beyond : List Byte) : judgeBytes q (frame ++ beyond) = .command c := by
  cases c with
  | powerUp | resetN | uptimeTick | loadCompletion | vsenseSample | telegramCompletion | entryTaken | silenceExpiry
    | positionTimerExpiry | writeBegin | writeCompletion | malformedCommandFrame | syncDetected | lineCodingViolation
    | powerLoss => cases h
  | nop | readId | getEvents | portReset | readWheels | readAxles | readAlerts | ackAlert | readPermit | readVehicle
    | readConfig | profileSelect | profileRead | learnSkip | learnFinish | learnAbort | learnStatus | storeCommit
    | storeStatus => exact judgeBytes_framed h rfl rfl rfl
  | setEventMask p m => exact judgeBytes_framed h rfl rfl (congrArg (Instr.setEventMask p) (half_bytes2 m))
  | setVehicleLoad p v => exact judgeBytes_framed h rfl rfl (congrArg (Instr.setVehicleLoad p) (half_bytes2 v))
  | setVehicleBody p v => exact judgeBytes_framed h rfl rfl (congrArg (Instr.setVehicleBody p) (half_bytes2 v))
  | setVehicleTrailer p v => exact judgeBytes_framed h rfl rfl (congrArg (Instr.setVehicleTrailer p) (half_bytes2 v))
  | setVehicleMotion p v => exact judgeBytes_framed h rfl rfl (congrArg (Instr.setVehicleMotion p) (half_bytes2 v))
  | setVehicleLiftedSet p v => exact judgeBytes_framed h rfl rfl (congrArg (Instr.setVehicleLiftedSet p) (half_bytes2 v))
  | setVehicleAmbient p v => exact judgeBytes_framed h rfl rfl (congrArg (Instr.setVehicleAmbient p) (half_bytes2 v))
  | setConfig p item v => exact judgeBytes_framed h rfl rfl (congrArg (Instr.setConfig p item) (word4_bytes4 v))
  | mapAssign p g a k id =>
    exact judgeBytes_framed h rfl rfl (congrArg₂ (Instr.mapAssign p · a k ·) (half_bytes2 g) (word4_bytes4 id))
  | mapRemove p g a k => exact judgeBytes_framed h rfl rfl (congrArg (Instr.mapRemove p · a k) (half_bytes2 g))
  | mapSetAxle p g => exact judgeBytes_framed h rfl rfl (congrArg (fun x => Instr.mapSetAxle p x ..) (half_bytes2 g))
  | mapMove p g => exact judgeBytes_framed h rfl rfl (congrArg (fun x => Instr.mapMove p x ..) (half_bytes2 g))
  | mapProtect p g => exact judgeBytes_framed h rfl rfl (congrArg (fun x => Instr.mapProtect p x ..) (half_bytes2 g))
  | profileWrite p v => exact judgeBytes_framed h rfl rfl (congrArg (Instr.profileWrite p) (half_bytes2 v))
  | learnStart p g => exact judgeBytes_framed h rfl rfl (congrArg (fun x => Instr.learnStart p x ..) (half_bytes2 g))

theorem encodeFrame_append_ne_nil {c : Instr} {q : PortId} {frame : List Byte} (h : encodeFrame c = some (q, frame))
    (beyond : List Byte) : frame ++ beyond ≠ [] := fun empty => by
  have judged := judgeBytes_encodeFrame h beyond
  rw [empty] at judged
  cases judged

theorem vehicleCommand_unknown (q : PortId) {item : Byte} (h : 5 < item.toNat) (v : Half) :
    vehicleCommand q item v = .unknownItem := by
  obtain ⟨n, hn⟩ := Nat.exists_eq_add_of_le' h
  rw [vehicleCommand, hn]
  rfl

/-! ### What the port answers (R145, R168) -/

/-- A transaction that is taken answers by its judgement alone. -/
theorem exec_malformedCommandFrame {s : State} {q : PortId} (takes : Claims.Takes s q) {bits : List Bool} {t : Transaction}
    (judged : judgeFrame q bits = t) :
    exec (.malformedCommandFrame q bits) s = .next (t.status.elim s fun st => s.answer q st []) := by
  refine (next_taken takes _).trans ?_
  rw [judged]
  cases t.status <;> rfl

/-- Settles O10: the judgement of the bits, or of the bytes that they spell, gives the reply. -/
theorem malformedFramesChangeOnlyTheReply : Obligations.MalformedFramesChangeOnlyTheReply := by
  unfold Obligations.MalformedFramesChangeOnlyTheReply
  intro s q takes
  have answers {bytes : List Byte} {t : Transaction} (some : bytes ≠ []) (judged : judgeBytes q bytes = t) :=
    exec_malformedCommandFrame takes ((judgeFrame_bits q some).trans judged)
  refine ⟨exec_malformedCommandFrame takes rfl, fun bits some short => ?_, fun item v1 v0 beyond unknown => ?_,
    fun c frame beyond framed => ?_, fun code n rest =>
      ⟨fun short => ?_, fun whole unknown => ?_, fun whole known other => ?_⟩⟩
  · exact exec_malformedCommandFrame takes (judgeFrame_malformed q some short)
  · exact answers (List.cons_ne_nil _ _) ((judgeBytes_known q (code := 0x0A) (ps := [item, v1, v0]) rfl beyond).trans
      (vehicleCommand_unknown q unknown _))
  · exact answers (encodeFrame_append_ne_nil framed beyond) (judgeBytes_encodeFrame framed beyond)
  · exact answers (List.cons_ne_nil _ _) (judgeBytes_short q short)
  · exact answers (List.cons_ne_nil _ _) (judgeBytes_unknown q whole unknown)
  · exact answers (List.cons_ne_nil _ _) (judgeBytes_wrongLength q whole known other)

end Sys2Proof

/-! ## Resets, the load's BUSY and the writes of the store -/

namespace Sys2Proof
open Machine Safety

/-! ### Resets (R159, R165, R167, R177) -/

/-- Settles O4: each of the three is `State.restart`, which is the power-up state but for what a reset does not reach. -/
theorem restartGivesThePowerUpState : Obligations.RestartGivesThePowerUpState := by
  unfold Obligations.RestartGivesThePowerUpState
  intro s t
  have restarts : s.restart = t := rfl
  rw [← restarts]
  exact ⟨exec_restarts s (.inl rfl), exec_restarts s (.inr (.inl rfl)), exec_restarts s (.inr (.inr rfl))⟩

/-! ### STORE_COMMIT (R161) -/

section
variable {s : State} {q : PortId} (takes : Claims.Takes s q)
include takes

theorem exec_storeCommit_normal (idle : s.store.state = .idle) (normal : s.supply.state = .normal) :
    exec (.storeCommit q) s = .next (s.beginWrite.answer q .accepted [0x03]) := by
  refine (next_taken takes _).trans ?_
  rw [idle, normal]

theorem exec_storeCommit_low (idle : s.store.state = .idle) (low : s.supply.state = .low) :
    exec (.storeCommit q) s
      = .next (State.answer { s with store := { s.store with state := .pending } } q .accepted [0x02]) := by
  refine (next_taken takes _).trans ?_
  rw [idle, low]

theorem exec_storeCommit_busy (occupied : s.store.state ≠ .idle) :
    exec (.storeCommit q) s = .next (s.answer q .busy []) := by
  refine (next_taken takes _).trans ?_
  split
  · next idle _ => exact absurd idle occupied
  · next idle _ => exact absurd idle occupied
  · rfl

end

/-! ### Commands that the load does not take (R159) -/

theorem Machine.State.store_of_loading {s : State} (l : s.loading = true) : s.store.state = .loading := by
  unfold State.loading at l
  split at l
  · assumption
  · cases l

theorem learnStartFailure_loading {s : State} (l : s.loading = true) (expected : Generation) (first last : Byte) :
    s.learnStartFailure expected first last = some .busy := by rw [learnStartFailure_eq, if_pos l]

/-- Settles O12: each command but the seven asks whether the load runs before anything else. -/
theorem otherCommandsAreBusyDuringLoading : Obligations.OtherCommandsAreBusyDuringLoading := by
  unfold Obligations.OtherCommandsAreBusyDuringLoading
  intro s c q code frame takes loading framed other
  cases c with
  | powerUp | resetN | uptimeTick | loadCompletion | vsenseSample | telegramCompletion | entryTaken | silenceExpiry
    | positionTimerExpiry | writeBegin | writeCompletion | malformedCommandFrame | syncDetected | lineCodingViolation
    | powerLoss => cases framed
  | nop | readId | getEvents | setEventMask | setVehicleLoad | setVehicleBody | setVehicleTrailer | setVehicleMotion
    | setVehicleLiftedSet | setVehicleAmbient | readVehicle | storeStatus =>
    cases framed
    exact absurd (by decide) other
  | portReset | readWheels | readAxles | readAlerts | ackAlert | readPermit | setConfig | readConfig | mapAssign | mapRemove
    | mapSetAxle | mapMove | mapProtect | profileSelect | profileWrite | profileRead | learnSkip | learnFinish | learnAbort
    | learnStatus =>
    cases framed
    exact next_busy takes loading _
  | learnStart p expected first last =>
    cases framed
    exact exec_learnStart_refused takes (learnStartFailure_loading loading expected first last)
  | storeCommit p =>
    cases framed
    refine exec_storeCommit_busy takes ?_
    rw [State.store_of_loading loading]
    nofun

/-! ### The check value (R157) -/

theorem crc16Step_eq : crc16Step = Claims.crc16Bit := by
  funext reg bit
  unfold crc16Step Claims.crc16Bit
  rw [BitVec.msb_eq_getLsbD_last]
  by_cases h : bit = reg.getLsbD 15 <;> simp [h]

/-- The check value of the model is the one written out. -/
theorem checkValue_eq (i : Image) : checkValue i = Claims.checkValue i := by
  rw [checkValue, crc16, crc16Step_eq, ← bits_eq, Claims.checkValue, Image.bytesOut]

theorem validImage_content (i : Image) (check : BitVec 16) :
    (Nonvolatile.content i check).validImage = if check = Claims.checkValue i then some i else none := by
  rw [Nonvolatile.validImage, checkValue_eq]
  exact if_congr eq_comm rfl rfl

/-! ### The snapshot (R157, R162) -/

theorem flagOf_flagCode (b : Bool) : flagOf (flagCode b) = some b := by cases b <;> rfl

/-- An axle record is read back from the codes it is stored as. -/
theorem Machine.AxleRecord.decode_stored (r : AxleRecord) : r.stored.decode = some r :=
  have unit : unitOf r.unit.code = some r.unit := by cases r.unit <;> rfl
  have kind : kindOf r.kind.code = some r.kind := by cases r.kind <;> rfl
  have profile : profileOf r.profile.val = some r.profile := dif_pos r.profile.isLt
  StoredAxle.decode_eq_some.2
    ⟨flagOf_flagCode _, unit, kind, profile, flagOf_flagCode _, flagOf_flagCode _⟩

theorem workingImage_axle (s : State) (a : Fin 10) : (s.workingImage.axles[a]).decode = some (s.axle a) := by
  rw [State.workingImage, tabulate_get, AxleRecord.decode_stored]

/-! ### The beginning and the end of a write (R162, R163) -/

section
variable {s : State}

theorem exec_writeBegin_pending (pending : s.store.state = .pending) (normal : s.supply.state = .normal) :
    exec .writeBegin s = .next s.beginWrite := by
  show execWriteBegin s = _
  rw [execWriteBegin, pending, normal]

theorem exec_writeBegin_stays (unready : s.store.state ≠ .pending ∨ s.supply.state = .low) :
    exec .writeBegin s = .next s := by
  show execWriteBegin s = _
  unfold execWriteBegin
  split
  · next pending normal =>
    rcases unready with other | low
    · exact absurd pending other
    · rw [low] at normal
      cases normal
  · rfl

theorem exec_writeCompletion_writing {i : Image} (writing : s.store.state = .writing i) (verified : Bool) :
    exec (.writeCompletion verified) s = .next (s.completeWrite i verified) := by
  show execWriteCompletion verified s = _
  rw [execWriteCompletion, writing]

theorem exec_writeCompletion_stays (other : ∀ i, s.store.state ≠ .writing i) (verified : Bool) :
    exec (.writeCompletion verified) s = .next s := by
  show execWriteCompletion verified s = _
  unfold execWriteCompletion
  split
  · next i writing => exact absurd writing (other i)
  · rfl

end

/-- A verified write is stored with the check value written out. -/
theorem completeWrite_verified (s : State) (i : Image) :
    s.completeWrite i true = State.setFlagBoth
      { s with store := ⟨.idle, some i.generation, true, .ok⟩, nonvolatile := .content i (Claims.checkValue i) } .store := by
  rw [← checkValue_eq]
  rfl

/-- Settles O54: STORE_COMMIT by store and supply state, the end of a write by `completeWrite`, and the check value by
`checkValue_eq`. -/
theorem commitsAndWritesOfTheStore : Obligations.CommitsAndWritesOfTheStore := by
  unfold Obligations.CommitsAndWritesOfTheStore
  intro s q begun
  refine ⟨⟨rfl, rfl, rfl, rfl, rfl, workingImage_axle s⟩, exec_storeCommit_normal, exec_storeCommit_low,
    exec_storeCommit_busy, exec_writeBegin_pending, exec_writeBegin_stays, fun i writing => ⟨?_, .torn, rfl, ?_⟩,
    exec_writeCompletion_stays, validImage_content⟩
  · rw [exec_writeCompletion_writing writing, completeWrite_verified]
  · exact exec_writeCompletion_writing writing false

end Sys2Proof

/-! ## The wheel record in its bytes -/

namespace Sys2Proof
open Machine Safety

/-! ### Fields packed into a number (R178) -/

section
variable {w n : Nat}

theorem field_ofNat {start len : Nat} (fits : start + len ≤ w) :
    ((BitVec.ofNat w n).extractLsb' start len).toNat = n / 2 ^ start % 2 ^ len := by
  have power : 2 ^ w = 2 ^ start * 2 ^ (w - start) := by rw [← pow_add, Nat.add_sub_of_le (by omega)]
  have within : 2 ^ len ∣ 2 ^ (w - start) := pow_dvd_pow 2 (by omega)
  rw [BitVec.extractLsb'_toNat, BitVec.toNat_ofNat, Nat.shiftRight_eq_div_pow, power, Nat.mod_mul_right_div_self,
    Nat.mod_mod_of_dvd _ within]

theorem bit_ofNat {i : Nat} (fits : i < w) {b : Bool} (spelt : n / 2 ^ i % 2 = b.toNat) :
    (BitVec.ofNat w n).getLsbD i = b := by
  rw [BitVec.getLsbD_ofNat, decide_eq_true fits, Bool.true_and, Nat.testBit_eq_decide_div_mod_eq, spelt]
  cases b <;> rfl

end

/-- Byte 0: state, markers, battery low, and the pressure code's presence and highest bit (R181). -/
theorem stateByte_fields {code : Nat} (small : code < 8) (stale above low held high : Bool) {b : Byte}
    (spelt : b = byte (code + 8 * stale.toNat + 16 * above.toNat + 32 * low.toNat + 64 * held.toNat + 128 * high.toNat)) :
    (b.extractLsb' 0 3).toNat = code ∧ b.getLsbD 3 = stale ∧ b.getLsbD 4 = above ∧ b.getLsbD 5 = low
      ∧ b.getLsbD 6 = held ∧ b.getLsbD 7 = high := by
  have := stale.toNat_le; have := above.toNat_le; have := low.toNat_le; have := held.toNat_le; have := high.toNat_le
  subst spelt
  refine ⟨(field_ofNat (by decide)).trans ?_, bit_ofNat (by decide) ?_, bit_ofNat (by decide) ?_, bit_ofNat (by decide) ?_,
    bit_ofNat (by decide) ?_, bit_ofNat (by decide) ?_⟩ <;> omega

/-- Byte 1: the bands and the two counts (R181). -/
theorem bandByte_fields {band temp count leaks : Nat} (hb : band < 4) (ht : temp < 4) (hc : count < 4) (hl : leaks < 4)
    {b : Byte} (spelt : b = byte (band + 4 * temp + 16 * count + 64 * leaks)) :
    (b.extractLsb' 0 2).toNat = band ∧ (b.extractLsb' 2 2).toNat = temp ∧ (b.extractLsb' 4 2).toNat = count
      ∧ (b.extractLsb' 6 2).toNat = leaks := by
  subst spelt
  refine ⟨(field_ofNat (by decide)).trans ?_, (field_ofNat (by decide)).trans ?_, (field_ofNat (by decide)).trans ?_,
    (field_ofNat (by decide)).trans ?_⟩ <;> omega

/-- Byte 14: the axle and the slot (R181). -/
theorem placeByte_fields (axle : Fin 10) (slot : Fin 4) {b : Byte} (spelt : b = byte (16 * axle.val + slot.val)) :
    (b.extractLsb' 4 4).toNat = axle.val ∧ b.extractLsb' 2 2 = 0 ∧ (b.extractLsb' 0 2).toNat = slot.val := by
  subst spelt
  refine ⟨(field_ofNat (by decide)).trans ?_, BitVec.toNat_inj.1 ((field_ofNat (by decide)).trans ?_),
    (field_ofNat (by decide)).trans ?_⟩
  · omega
  · show _ = 0
    omega
  · omega

/-- Byte 15: the pending direction and floor (R181). -/
theorem pendingByte_fields {direction floor : Nat} (hd : direction < 4) (hf : floor < 4) {b : Byte}
    (spelt : b = byte (direction + 4 * floor)) :
    (b.extractLsb' 0 2).toNat = direction ∧ (b.extractLsb' 2 2).toNat = floor ∧ b.extractLsb' 4 4 = 0 := by
  subst spelt
  refine ⟨(field_ofNat (by decide)).trans ?_, (field_ofNat (by decide)).trans ?_,
    BitVec.toNat_inj.1 ((field_ofNat (by decide)).trans ?_)⟩
  · omega
  · omega
  · show _ = 0
    omega

/-! ### The conditions and the last sequence (R181) -/

/-- The number that bits spell, the least significant first. -/
theorem toNat_ofBoolListLE (bs : List Bool) :
    (BitVec.ofBoolListLE bs).toNat = bs.foldr (fun b above => above * 2 + b.toNat) 0 := by
  induction bs with
  | nil => rfl
  | cons b bs ih => rw [BitVec.ofBoolListLE, BitVec.toNat_concat, ih, List.foldr_cons]

/-- The word of the conditions is the bit vector of what the set has, the lowest code first. -/
theorem Machine.Conditions.word_eq (c : Conditions) : c.word = (BitVec.ofBoolListLE (Condition.all.map c.has)).toNat := by
  simp only [toNat_ofBoolListLE, Conditions.word, Condition.all, List.map_cons, List.map_nil, List.sum_cons, List.sum_nil,
    List.foldr_cons, List.foldr_nil, Condition.code, ← mul_toNat_eq_ite]
  omega

theorem Machine.Conditions.word_lt (c : Conditions) : c.word < 2 ^ 10 := by
  rw [Conditions.word_eq]
  exact BitVec.isLt _

theorem Machine.Conditions.testBit_word (c : Conditions) {i : Nat} {k : Condition} (listed : Condition.all[i]? = some k) :
    c.word.testBit i = c.has k := by
  rw [Conditions.word_eq]
  refine BitVec.getLsbD_ofBoolListLE.trans ?_
  rw [List.getD_eq_getElem?_getD, List.getElem?_map, listed]
  rfl

/-- Bytes 4 and 5: the conditions, the last sequence and its presence (R181). -/
theorem conditionWord_fields (c : Conditions) (sequence : BitVec 4) (held : Bool) {x : Half}
    (spelt : x = BitVec.ofNat 16 (c.word + 1024 * sequence.toNat + 16384 * held.toNat)) :
    (∀ (i : Nat) (k : Condition), Condition.all[i]? = some k → x.getLsbD i = c.has k) ∧ x.extractLsb' 10 4 = sequence
      ∧ x.getLsbD 14 = held ∧ x.getLsbD 15 = false := by
  have := c.word_lt
  have := sequence.isLt
  have := held.toNat_le
  subst spelt
  refine ⟨fun i k listed => ?_, BitVec.toNat_inj.1 ((field_ofNat (by decide)).trans ?_), bit_ofNat (by decide) ?_,
    bit_ofNat (by decide) ?_⟩
  · have small : i < 10 := (List.getElem?_eq_some_iff.1 listed).1
    have split : c.word + 1024 * sequence.toNat + 16384 * held.toNat
        = 2 ^ 10 * (sequence.toNat + 16 * held.toNat) + c.word := by omega
    rw [BitVec.getLsbD_ofNat, decide_eq_true (by omega), Bool.true_and, split, Nat.testBit_two_pow_mul_add _ c.word_lt,
      if_pos small, c.testBit_word listed]
  · omega
  · omega
  · show _ = 0
    omega

/-! ### The signed values (R181) -/

/-- P_cold on a port; FFFFh absent. -/
def coldWord (cold : Option Int) : Half := cold.elim 0xFFFF (BitVec.ofInt 16)

/-- The leak rate on a port; 8000h absent. -/
def rateWord (rate : Option Int) : Half := rate.elim 0x8000 fun v => BitVec.ofInt 16 (clampInt (-32767) 32767 v)

/-- The held temperature on a port; FFh absent. -/
def heldByte (held : Option Int) : Byte := held.elim 0xFF fun h => signed1 (h + 50)

theorem toNat_ofInt_of_range {w : Nat} {v : Int} (low : 0 ≤ v) (high : v < (2 ^ w : Nat)) :
    ((BitVec.ofInt w v).toNat : Int) = v := by
  rw [BitVec.toNat_ofInt, Int.emod_eq_of_lt low high, Int.toNat_of_nonneg low]

theorem toNat_coldWord {c : Int} (range : 0 ≤ c ∧ c ≤ 18340) : ((coldWord (some c)).toNat : Int) = c :=
  toNat_ofInt_of_range range.1 (by have := range.2; omega)

theorem toNat_heldByte {h : Int} (range : -50 ≤ h ∧ h ≤ 204) : ((heldByte (some h)).toNat : Int) = h + 50 :=
  toNat_ofInt_of_range (by have := range.1; omega) (by have := range.2; omega)

theorem toInt_rateWord (v : Int) : (rateWord (some v)).toInt = Claims.nearest (-32767) 32767 v := by
  obtain ⟨low, high⟩ := clampInt_range (show (-32767 : Int) ≤ 32767 by decide) v
  rw [← clampInt_eq_nearest (by decide)]
  exact BitVec.toInt_ofInt_eq_self (by decide) (by omega) (by omega)

/-! ### Codes and counts in their fields (R178) -/

/-- A pending state that the law allows counts at most one reading (R84, R86). -/
theorem Safety.PendingLaw.count_le {x : Pending} (law : PendingLaw x) : x.count ≤ 1 := by
  obtain rfl | ⟨z, side, -, rfl⟩ := law
  · exact Nat.zero_le 1
  · exact Nat.le_refl 1

theorem Machine.WheelState.code_eq (x : WheelState) : x.code = Claims.stateCode x := by cases x <;> rfl

theorem Machine.Band.code_eq (z : Band) : z.code = Claims.bandCode z := by cases z <;> rfl

theorem Machine.TempBand.code_eq (x : TempBand) : x.code = Claims.tempCode x := by cases x <;> rfl

theorem Machine.WheelState.code_lt (x : WheelState) : x.code < 8 := by cases x <;> decide

theorem Machine.Band.code_lt (z : Band) : z.code < 4 := by cases z <;> decide

theorem Machine.TempBand.code_lt (x : TempBand) : x.code < 4 := by cases x <;> decide

theorem directionCode_lt (x : Option Side) : directionCode x < 4 := by
  match x with
  | none | some .low | some .high => decide

theorem floorCode_lt (x : Option Band) : x.elim 0 Band.code < 4 := by
  cases x with
  | none => decide
  | some z => exact z.code_lt

/-! ### The sixteen bytes (R181) -/

theorem wheelBytes_eq (n : Nat) (p : Pos) (r : WheelRecord) :
    wheelBytes n p r =
      [byte (r.state.code + 8 * r.stale.toNat + 16 * r.overRange.toNat + 32 * r.batteryLow.toNat
          + 64 * r.pressureCode.isSome.toNat
          + 128 * ((r.pressureCode.getD (Config.absentPressureBits n p.idx.val)).getLsbD 8).toNat),
        byte (r.band.code + 4 * r.tempBand.code + 16 * r.pending.count + 64 * r.leakCount)]
      ++ bytes2 (coldWord r.pCold)
      ++ bytes2 (BitVec.ofNat 16 (r.conditions.word
          + 1024 * (r.lastSequence.getD (Config.absentSequenceBits n p.idx.val)).toNat
          + 16384 * r.lastSequence.isSome.toNat))
      ++ [(r.pressureCode.getD (Config.absentPressureBits n p.idx.val)).setWidth 8,
        r.tempCode.getD (Config.absentTempBits n p.idx.val), heldByte r.heldTemp, r.faultCode.getD 0, rssiByte r.rssi0,
        rssiByte r.rssi1]
      ++ bytes2 (rateWord r.leakRate)
      ++ [byte (16 * p.axle.val + p.slot.val),
        byte (directionCode r.pending.direction + 4 * (r.pending.floor.elim 0 Band.code))] := by
  unfold wheelBytes
  cases r.pCold <;> cases r.heldTemp <;> cases r.leakRate <;> rfl

/-- Settles O14: the packed bytes by their fields, the words by the values they carry. -/
theorem wheelRecordLayout : Obligations.WheelRecordLayout := by
  unfold Obligations.WheelRecordLayout
  intro n p r pending leaks cold held
  obtain ⟨state, stale, overRange, batteryLow, present, high⟩ :=
    stateByte_fields r.state.code_lt r.stale r.overRange r.batteryLow r.pressureCode.isSome
      ((r.pressureCode.getD (Config.absentPressureBits n p.idx.val)).getLsbD 8) rfl
  obtain ⟨band, tempBand, count, leakCount⟩ := bandByte_fields r.band.code_lt r.tempBand.code_lt
    (Nat.lt_of_le_of_lt pending.count_le (by decide)) (Nat.lt_of_le_of_lt leaks (by decide)) rfl
  obtain ⟨conditions, sequence, sequenced, spare⟩ := conditionWord_fields r.conditions
    (r.lastSequence.getD (Config.absentSequenceBits n p.idx.val)) r.lastSequence.isSome rfl
  obtain ⟨axle, between, slot⟩ := placeByte_fields p.axle p.slot rfl
  obtain ⟨direction, floor, rest⟩ := pendingByte_fields (directionCode_lt r.pending.direction)
    (floorCode_lt r.pending.floor) rfl
  refine ⟨_, _, _, _, _, _, _, _, _, _, _, _, _, _, _, _, wheelBytes_eq n p r, state.trans r.state.code_eq, stale, overRange,
    batteryLow, present, fun c h => ⟨?_, ?_⟩, fun c h => ?_, band.trans r.band.code_eq, tempBand.trans r.tempBand.code_eq,
    count, leakCount, fun c h => ?_, fun h => ?_, fun i k listed => ?_, fun x h => ?_, ?_, ?_, fun c h => ?_, fun h => ?_, rfl,
    ?_, ?_, fun v h => ?_, fun h => ?_, axle, between, slot, direction.trans ?_, floor.trans ?_, rest⟩
  · rw [high, h]
    rfl
  · rw [h]
    rfl
  · rw [h]
    rfl
  · rw [h]
    exact (congrArg (fun x : Half => (x.toNat : Int)) (half_bytes2 _)).trans (toNat_coldWord (cold c h))
  · rw [h]
    exact half_bytes2 _
  · exact (congrArg (BitVec.getLsbD · i) (half_bytes2 _)).trans (conditions i k listed)
  · refine (congrArg (BitVec.extractLsb' 10 4) (half_bytes2 _)).trans (sequence.trans ?_)
    rw [h]
    rfl
  · exact (congrArg (BitVec.getLsbD · 14) (half_bytes2 _)).trans sequenced
  · exact (congrArg (BitVec.getLsbD · 15) (half_bytes2 _)).trans spare
  · rw [h]
    exact toNat_heldByte (held c h)
  · rw [h]
    rfl
  · cases r.rssi0 <;> rfl
  · cases r.rssi1 <;> rfl
  · rw [h]
    exact (congrArg BitVec.toInt (half_bytes2 _)).trans (toInt_rateWord v)
  · rw [h]
    exact half_bytes2 _
  · cases r.pending.direction with
    | none => rfl
    | some side => cases side <;> rfl
  · cases r.pending.floor with
    | none => rfl
    | some z => exact z.code_eq

end Sys2Proof

/-! ## The port commands that concern the port alone, and the attention line -/

namespace Sys2Proof
open Machine Safety

/-- Settles O11: the bits of a frame are judged by its bytes, and those are the command's. -/
theorem commandFrameRoundTrip : Obligations.CommandFrameRoundTrip := by
  unfold Obligations.CommandFrameRoundTrip
  intro c q bytes beyond framed
  rw [bitsOfBytes, ← bits_eq, judgeFrame_bits q (encodeFrame_append_ne_nil framed beyond)]
  exact judgeBytes_encodeFrame framed beyond

/-- Settles O6: each of the three is a transaction that is taken in every store state. -/
theorem identificationNopAndEventReplies : Obligations.IdentificationNopAndEventReplies := by
  unfold Obligations.IdentificationNopAndEventReplies
  intro s q takes
  refine ⟨(next_taken takes _).trans ?_, next_taken takes _, next_taken takes _⟩
  cases q <;> rfl

/-! ### The attention line (R174) -/

theorem Machine.EventFlag.exists_number {i : Nat} (h : i < 11) : ∃ f : EventFlag, f.number = i := by
  have every : ∀ i : Fin 11, ∃ f ∈ [EventFlag.restarted, .wheel, .alertRaised, .alertCleared, .permit, .learn, .store, .image,
    .queueLost, .supply, .vehicle], f.number = i.val := by decide
  obtain ⟨f, -, number⟩ := every ⟨i, h⟩
  exact ⟨f, number⟩

theorem Machine.EventFlag.number_lt (f : EventFlag) : f.number < 11 := by cases f <;> decide

theorem bitVec_ne_zero_iff {w : Nat} (x : BitVec w) : x ≠ 0 ↔ ∃ i, i < w ∧ x.getLsbD i = true := by
  constructor
  · intro some
    by_contra none
    refine some (BitVec.eq_of_getLsbD_eq fun i h => ?_)
    rw [Bool.eq_false_iff.2 fun set => none ⟨i, h, set⟩]
    exact BitVec.getLsbD_zero.symm
  · rintro ⟨i, -, set⟩ rfl
    exact absurd (BitVec.getLsbD_zero.symm.trans set) Bool.false_ne_true

theorem Machine.State.attention_iff (s : State) (q : PortId) :
    s.attention q = true ↔ ∃ f, (s.port q).flag f = true ∧ (s.port q).mask.getLsbD f.number = false := by
  have unmasked (f : EventFlag) : ((s.port q).flags &&& ~~~(s.port q).mask).getLsbD f.number = true
      ↔ (s.port q).flag f = true ∧ (s.port q).mask.getLsbD f.number = false := by
    rw [BitVec.getLsbD_and, BitVec.getLsbD_not, decide_eq_true f.number_lt, Bool.true_and, Bool.and_eq_true,
      Bool.not_eq_true', Port.flag]
  rw [State.attention, bne_iff_ne, bitVec_ne_zero_iff]
  constructor
  · rintro ⟨i, h, set⟩
    obtain ⟨f, rfl⟩ := EventFlag.exists_number h
    exact ⟨f, (unmasked f).1 set⟩
  · rintro ⟨f, set⟩
    exact ⟨f.number, f.number_lt, (unmasked f).2 set⟩

/-- With every mask bit set no flag asserts the line. -/
theorem Machine.State.attention_of_masked {s : State} {q : PortId} (masked : (s.port q).mask = BitVec.allOnes 11) :
    s.attention q = false := by
  rw [State.attention, masked, BitVec.not_allOnes, BitVec.and_zero]
  rfl

/-! ### PORT_RESET (R112, R175) -/

theorem resetFlags_eq (b : AlertBlock) : resetFlags b = if b.entries = [] then 0b00000000001 else 0b00000000101 := by
  unfold resetFlags
  cases b.entries <;> rfl

section
variable {s : State} {q : PortId} (takes : Claims.Takes s q) (loaded : s.loading = false)
include takes loaded

theorem exec_portReset :
    exec (.portReset q) s = .next ((State.setPort { s with alerts := s.alerts.unackAll q } q
      { s.port q with flags := resetFlags s.alerts, mask := BitVec.allOnes 11, staging := none }).answer q .ok []) :=
  next_loaded takes loaded _

theorem attention_portReset {t : State} (run : exec (.portReset q) s = .next t) : t.attention q = false := by
  rw [exec_portReset takes loaded] at run
  cases run
  refine State.attention_of_masked ?_
  rw [State.answer_port, if_pos rfl, State.setPort_port, if_pos rfl]

end

/-- Settles O8: BUSY during the load, else the state that `exec_portReset` gives. -/
theorem portResetRestartsOneInterface : Obligations.PortResetRestartsOneInterface := by
  unfold Obligations.PortResetRestartsOneInterface
  intro s q takes
  refine ⟨fun loading => next_busy takes loading _, fun loaded => ?_, fun t loaded => attention_portReset takes loaded⟩
  rw [exec_portReset takes loaded, resetFlags_eq]
  cases q <;> rfl

/-- Settles O7: the mask by the transaction, the line by `State.attention_iff`, and the two resets by their full mask. -/
theorem eventMaskMovesTheAttentionLine : Obligations.EventMaskMovesTheAttentionLine := by
  unfold Obligations.EventMaskMovesTheAttentionLine
  refine ⟨fun s q m takes => next_taken takes _, State.attention_iff, fun q => ?_,
    fun s t q takes loaded => attention_portReset takes loaded⟩
  refine State.attention_of_masked ?_
  rw [reset_port]
  rfl

end Sys2Proof

/-! ## The front command, and the laws after reset -/

namespace Sys2Proof
open Machine Safety

/-! ### One step (log entry 1) -/

@[simp] theorem step_front (c : Instr) (rest : List Instr) (s : State) :
    step { s with pending := c :: rest } = exec c { s with pending := rest } := rfl

theorem step_idle {s : State} (idle : s.pending = []) : step s = .next s := by
  rw [step, idle]

/-- Settles O1: the two branches of `step`, one for each form of the queue. -/
theorem stepRunsTheFrontCommand : Obligations.StepRunsTheFrontCommand := by
  unfold Obligations.StepRunsTheFrontCommand
  exact ⟨step_front, fun _ => step_idle⟩

/-! ### The laws after reset -/

/-- The laws that the step lemmas keep in two parts, with those of the verdict record, are all the laws of the device. -/
theorem lawful_of_kept {s : State} (k : Kept s) (receive : ReceiveLaw s) (loading : LoadingLaw s) (store : StoreLaw s)
    (permit : PermitLaw s) (current : PermitCurrent s) : Lawful s where
  receive := receive
  range := k.outer.range
  lift := k.outer.lift
  loading := loading
  map := k.wheels.map
  session := k.outer.session
  record := k.recordLaw
  detached := k.detachedLaw
  pressure := k.pressureLaw
  stale := k.staleLaw
  mirror := k.mirrorLaw
  count := k.countLaw
  pair := k.wheels.pair
  alert := k.wheels.alert
  permit := permit
  current := current
  store := store

/-- The power-up state is its own restart. -/
theorem restart_reset : State.reset.restart = State.reset := rfl

theorem pathKept_reset : PathKept State.reset State.reset := by
  have restarted := pathKept_restart State.reset
  rwa [restart_reset] at restarted

/-- While STARTING there is no evaluation for the verdict record to agree with. -/
theorem permitCurrent_of_starting {s : State} (starting : s.permit.basis = .starting) : PermitCurrent s := fun evaluated =>
  absurd (starting.symm.trans evaluated) nofun

/-- Settles O3: the wheels, map and ranges by `kept_reset`, the receive path, load and store as after any restart, and
the verdict record by its power-up value. -/
theorem resetSatisfiesEveryLaw : Obligations.ResetSatisfiesEveryLaw := by
  unfold Obligations.ResetSatisfiesEveryLaw
  have path := pathKept_reset
  exact lawful_of_kept kept_reset path.receive path.loading path.store (permitLaw_reset rfl rfl)
    (permitCurrent_of_starting rfl)

end Sys2Proof
